-- ==== Sys2Proof/Word.lean ====
section
/-! DEFINITION. The widths of the engine's values (00_scope.md R9, R12): every value is unsigned. -/

namespace Sys2Proof

/-- 8 bits, values 0 to 255 (R12). -/
abbrev Byte := BitVec 8

/-- `u32`, an unsigned 32-bit word: the width of every host register and round register (R9, R12). -/
abbrev Word := BitVec 32

/-- `u64`, the width of the byte counter and of CONSUMED (R9, R12). -/
abbrev DWord := BitVec 64

end Sys2Proof
end

