-- ==== Sys2Proof/Syntax.lean ====
section
/-! DEFINITION. The command set "MD5SE command set, revision 1" (00_scope.md R3): one constructor per row of
spec/opcode_table.json (30_encoding.md R94). The only operand inside the command word is PAD's fill byte (R91, R92);
every other operand is taken from ARG0, ARG1 and the data window when the command executes (R90). -/

namespace Sys2Proof

/-- The ten commands, in the order of the opcode map (R94). -/
inductive Instr where
  /-- INIT, opcode 0x01 (R128). -/
  | init
  /-- UPDATE, opcode 0x02 (R129). -/
  | update
  /-- PAD, opcode 0x03, with the fill byte CMD[15:8] (R130). -/
  | pad (fill : Byte)
  /-- FINALIZE, opcode 0x04 (R131). -/
  | finalize
  /-- RENDER_HEX, opcode 0x05 (R132). -/
  | renderHex
  /-- DIGEST_RANGE, opcode 0x10 (R162). -/
  | digestRange
  /-- HASH_GENERIC, opcode 0x20 (R165). -/
  | hashGeneric
  /-- HASH_SNES, opcode 0x21 (R166). -/
  | hashSnes
  /-- HASH_GENESIS, opcode 0x22 (R167). -/
  | hashGenesis
  /-- HASH_NES, opcode 0x23 (R173). -/
  | hashNes
  deriving DecidableEq, Repr

end Sys2Proof
end

