-- ==== Sys2Proof/WellFormed.lean ====
section
/-! DEFINITION. Well-formedness: the legality of a command word against the opcode map (30_encoding.md R94, R96),
written as the table gives it (match and mask) and apart from the decoder, so that the two can be compared. -/

namespace Sys2Proof

/-- One row of the opcode map: the word it matches under its mask (R94). -/
structure OpcodeRow where
  mnemonic : String
  word : Word
  mask : Word
  deriving DecidableEq, Repr

/-- The opcode map, row by row (R94; spec/opcode_table.json). -/
def opcodeRows : List OpcodeRow :=
  [⟨"INIT", 0x00000001, 0xFFFFFFFF⟩,
   ⟨"UPDATE", 0x00000002, 0xFFFFFFFF⟩,
   ⟨"PAD", 0x00000003, 0xFFFF00FF⟩,
   ⟨"FINALIZE", 0x00000004, 0xFFFFFFFF⟩,
   ⟨"RENDER_HEX", 0x00000005, 0xFFFFFFFF⟩,
   ⟨"DIGEST_RANGE", 0x00000010, 0xFFFFFFFF⟩,
   ⟨"HASH_GENERIC", 0x00000020, 0xFFFFFFFF⟩,
   ⟨"HASH_SNES", 0x00000021, 0xFFFFFFFF⟩,
   ⟨"HASH_GENESIS", 0x00000022, 0xFFFFFFFF⟩,
   ⟨"HASH_NES", 0x00000023, 0xFFFFFFFF⟩]

/-- "A word w selects a row when (w & Mask) = match" (R94). -/
def OpcodeRow.selects (r : OpcodeRow) (w : Word) : Bool := w &&& r.mask == r.word

/-- "a word is legal exactly when it matches a row of rule R94 under that row's mask" (R96). -/
def wordLegal (w : Word) : Bool := opcodeRows.any fun r => r.selects w

/-- A decoded command is well-formed when its operands are ones its encoding admits (R91, R92). The one operand
inside the word is PAD's fill byte, and its type is exactly the byte the encoding admits: no ill-formed term of
`Instr` can be written, so each arm holds. The checks that can fail are those on raw words, `wordLegal`. -/
def Instr.wellFormed : Instr → Bool
  | .init => true
  | .update => true
  | .pad _ => true
  | .finalize => true
  | .renderHex => true
  | .digestRange => true
  | .hashGeneric => true
  | .hashSnes => true
  | .hashGenesis => true
  | .hashNes => true

end Sys2Proof
end

