-- ==== Sys2Proof/Decode.lean ====
section
/-! DEFINITION. The decoder, total on all 2^32 command words (30_encoding.md R99), with a name for each reason it
rejects a word (R95, R96), and after it the encoder (R91, R94). -/

namespace Sys2Proof

/-- OPCODE, CMD[7:0] (R91). -/
def opcodeOf (w : Word) : Byte := w.extractLsb' 0 8

/-- FILL, CMD[15:8] (R91). -/
def fillOf (w : Word) : Byte := w.extractLsb' 8 8

/-- RSVD, CMD[31:16] (R91). -/
def rsvdOf (w : Word) : BitVec 16 := w.extractLsb' 16 16

/-- The opcodes other than PAD's, whose word holds nothing but the opcode (R94); `none` for a reserved opcode
(R95) and for PAD's own, which `decodeWord` reads with its fill byte. -/
def lookupOpcode (op : Byte) : Option Instr :=
  match op.toNat with
  | 0x01 => some .init
  | 0x02 => some .update
  | 0x04 => some .finalize
  | 0x05 => some .renderHex
  | 0x10 => some .digestRange
  | 0x20 => some .hashGeneric
  | 0x21 => some .hashSnes
  | 0x22 => some .hashGenesis
  | 0x23 => some .hashNes
  | _ => none

/-- Why a word is no command (R95, R96). -/
inductive RejectReason where
  /-- RSVD, bits [31:16], is not 0 (R96). -/
  | rsvdNotZero
  /-- FILL, bits [15:8], is not 0 on an opcode other than PAD (R96). -/
  | fillNotZero
  /-- The OPCODE is reserved (R95). -/
  | reservedOpcode
  deriving DecidableEq, Repr

/-- What a command word is: a command, or rejected by name. -/
inductive Decoded where
  | command (i : Instr)
  | rejected (why : RejectReason)
  deriving DecidableEq, Repr

/-- The decoder, rejecting by name (R95, R96, R99). A word wrong in several ways is rejected for the first of
RSVD, FILL, OPCODE; every reason is the same fault ILLEGAL_CMD at execution. -/
def decodeWord (w : Word) : Decoded :=
  if rsvdOf w ≠ 0 then .rejected .rsvdNotZero
  else if opcodeOf w = 0x03 then .command (.pad (fillOf w))
  else if fillOf w ≠ 0 then .rejected .fillNotZero
  else
    match lookupOpcode (opcodeOf w) with
    | some i => .command i
    | none => .rejected .reservedOpcode

/-- `decode` of R99: `none` is the fault ILLEGAL_CMD at execution. -/
def decode (w : Word) : Option Instr :=
  match decodeWord w with
  | .command i => some i
  | .rejected _ => none

/-- The opcode of a command (R94). -/
def Instr.opcode : Instr → Byte
  | .init => 0x01
  | .update => 0x02
  | .pad _ => 0x03
  | .finalize => 0x04
  | .renderHex => 0x05
  | .digestRange => 0x10
  | .hashGeneric => 0x20
  | .hashSnes => 0x21
  | .hashGenesis => 0x22
  | .hashNes => 0x23

/-- The FILL field of a command's word: PAD's fill byte, 0 for every other opcode (R91). -/
def Instr.fillField : Instr → Byte
  | .init => 0
  | .update => 0
  | .pad fill => fill
  | .finalize => 0
  | .renderHex => 0
  | .digestRange => 0
  | .hashGeneric => 0
  | .hashSnes => 0
  | .hashGenesis => 0
  | .hashNes => 0

/-- The command word of a command: RSVD 0, FILL in [15:8], OPCODE in [7:0] (R91, R94). -/
def encode (i : Instr) : Word := i.fillField.setWidth 32 <<< 8 ||| i.opcode.setWidth 32

/-- What the decoder reads from an instruction of `nbits` bits whose bits, numbered as spec/opcode_table.json
numbers them, are `w`. A command is one 32-bit word (R90), so bits above `nbits` are 0 and nothing follows. -/
def decodeTableWord (nbits w : Nat) : Option Instr := decode (BitVec.ofNat 32 (w % 2 ^ nbits))

end Sys2Proof
end

