-- ==== Sys2Proof/Config.lean ====
section
/-! DEFINITION. The configuration record a machine takes (00_scope.md R6, R10) and its defaults, the source's values;
and the free values (93_implementation_defined.md, "any value"), opaque constants with no body. -/

namespace Sys2Proof

/-- The configuration record (R10; 92_eei_decisions.md D31). Sizes and counts are natural numbers of bytes. -/
structure Params where
  /-- CANON_SNES. -/
  canonSnes : Nat
  /-- FILL_SNES. -/
  fillSnes : Byte
  /-- CANON_GENESIS. -/
  canonGenesis : Nat
  /-- FILL_GENESIS. -/
  fillGenesis : Byte
  /-- FILL_NES. -/
  fillNes : Byte
  /-- NES_HEADER_LEN. -/
  nesHeaderLen : Nat
  /-- NES_TRAINER_SKIP. -/
  nesTrainerSkip : Nat
  /-- NES_BANK_SIZE. -/
  nesBankSize : Nat
  /-- NES_NOROUND, the mapper numbers whose bank count is not rounded. -/
  nesNoRound : List Byte
  /-- NES_MAGIC. -/
  nesMagic : List Byte
  /-- READ_CHUNK; no result depends on it (R127). -/
  readChunk : Nat
  /-- PAD_CHUNK; no result depends on it (R127). -/
  padChunk : Nat
  deriving DecidableEq, Repr

/-- The defaults of R10, the source's values. `exec` and `step` read the machine's own record, `State.params`, which is
this one in `State.reset` (log entry 11). -/
def Config.params : Params where
  canonSnes := 0x00800000
  fillSnes := 0x00
  canonGenesis := 0x00600000
  fillGenesis := 0x00
  fillNes := 0xFF
  nesHeaderLen := 16
  nesTrainerSkip := 16
  nesBankSize := 0x4000
  nesNoRound := [53, 198, 228]
  nesMagic := [0x4E, 0x45, 0x53, 0x1A]
  readChunk := 4096
  padChunk := 4096

/-- The `n`-th free value of `w` bits: what an unspecified register read returns (10_state.md R38, R40, R41;
60_exceptions.md R203; 93_implementation_defined.md S1, S2, S3). Log entry 4. Every engine of a system reads this one
sequence at its own draw counter: DESIGN CHOICE, log entry 17. -/
opaque Config.freeBits : Nat → (w : Nat) → BitVec w

/-- The `n`-th free natural number: it chooses how much of an unreliable byte-source read is delivered
(20_memory.md R65; 93_implementation_defined.md U3). Log entry 5. Every engine of a system reads this one sequence at
its own draw counter: DESIGN CHOICE, log entry 17. -/
opaque Config.freeNat : Nat → Nat

end Sys2Proof
end

