-- ==== Sys2Proof/Machine/State.lean ====
section
/-! DEFINITION. The state of the engine and of the agents around it, as plain data (10_state.md), and the state
right after reset (10_state.md R45). -/

namespace Sys2Proof.Machine

/-- St.PHASE, the lifecycle of the digest state (10_state.md R21, R22). The value 3 is never produced. -/
inductive Phase where
  /-- UNINIT (0): no INIT has run since reset. -/
  | uninit
  /-- ABSORB (1): initialised; accepts UPDATE, PAD and FINALIZE. -/
  | absorb
  /-- FINAL (2): finalised, or consumed by a recipe command, and zero. -/
  | final
  deriving DecidableEq, Repr

/-- The four round registers, the "running hash state" (10_state.md R23): the 4-tuple that Compress takes and
returns (40_digest.md R121). -/
structure Regs where
  a : Word
  b : Word
  c : Word
  d : Word
  deriving DecidableEq, Repr

/-- The digest state St (10_state.md R21). The buffered count is no field: it is `cnt` mod 64 (R25). -/
structure DigestState where
  phase : Phase
  regs : Regs
  cnt : DWord
  buf : Vector Byte 64
  deriving DecidableEq, Repr

/-- The fault codes of 60_exceptions.md R201. Codes 8 to 15 are never produced and have no constructor. -/
inductive FaultCode where
  | none
  | illegalCmd
  | notInit
  | finalized
  | badLen
  | noDigest
  | busyWrite
  | busAccess
  deriving DecidableEq, Repr

/-- The fields of the FAULT register (10_state.md R31, R39). -/
structure FaultInfo where
  code : FaultCode
  cmdOpc : Byte
  offset : Byte
  write : Bool
  deriving DecidableEq, Repr

/-- FAULT when no fault has been taken since reset (R39: reset value 0x00000000). -/
def FaultInfo.clear : FaultInfo := ⟨.none, 0, 0, false⟩

/-- The byte source the host attaches (10_state.md R36): the size reported when it is opened, and the bytes it
holds. -/
structure ByteSource where
  present : Bool
  size : DWord
  data : List Byte
  deriving DecidableEq, Repr

/-- "|SRC_DATA| = SRC_SIZE when SRC_RELIABLE holds" (10_state.md R36). -/
def ByteSource.wf (reliable : Bool) (src : ByteSource) : Bool :=
  !reliable || src.data.length == src.size.toNat

/-- The two agents (10_state.md R20). -/
inductive Agent where
  | engine
  | host
  deriving DecidableEq, Repr

/-- What the host can do to the engine (20_memory.md R81), one access a move. `width` is in bits; `offset` is the
byte offset in the 256-byte register space (R61). -/
inductive HostMove where
  /-- A read of the register space. -/
  | read (width : Nat) (offset : Byte)
  /-- A write of the register space. -/
  | write (width : Nat) (offset : Byte) (value : Word)
  /-- The loop `wait` of 30_encoding.md R101: read STATUS until BUSY reads 0. -/
  | wait
  /-- Attach a byte source (10_state.md R36). -/
  | attach (src : ByteSource)
  /-- Assert the reset input (70_reset_and_hazards.md R240). -/
  | reset
  deriving DecidableEq, Repr

/-- A value the host has read (30_encoding.md R100: "the value is recorded"), as wide as the access. -/
structure ReadRecord where
  width : Nat
  offset : Byte
  value : BitVec width
  deriving DecidableEq, Repr

/-- The machine. First the engine's own state (10_state.md R21 to R35), then the host-owned byte source, the launch
parameter SRC_RELIABLE (10_state.md R36, 00_scope.md R11) and the configuration record (00_scope.md R10), none of
which a command writes (10_state.md R46), then the model's own fields: the host's moves and whose turn it is
(60_exceptions.md R209), what the host has read (30_encoding.md R100), and the count of free values taken. -/
structure State where
  st : DigestState
  digest : Vector Word 4
  hex : Vector Word 8
  consumed : DWord
  digestValid : Bool
  hexValid : Bool
  resNone : Bool
  busy : Bool
  faulted : Bool
  fault : FaultInfo
  cmd : Word
  arg0 : Word
  arg1 : Word
  data : Vector Word 16
  src : ByteSource
  srcReliable : Bool
  params : Params
  hostMoves : List HostMove
  schedule : List Agent
  recorded : List ReadRecord
  draws : Nat
  deriving DecidableEq, Repr

/-- Why a step stops the model. No command ever does: the hardware's faults are states, reached by the fault entry
of 60_exceptions.md R204. -/
inductive Fault where
  /-- Raised by the host move `attach` when SRC_RELIABLE holds and SRC_DATA is not SRC_SIZE bytes long, a source
  that 10_state.md R36 says does not exist. Safe: the model stops where the spec describes nothing. Log entry 9. -/
  | sourceSizeMismatch
  deriving DecidableEq, Repr

/-- Why a step has no meaning. -/
inductive Refusal where
  /-- An instruction with no meaning yet, raised by `exec`'s arm alone. Safe: the model stops. -/
  | notModelled (mnemonic : String)
  /-- Raised by the host move `attach` while BUSY = 1: 93_implementation_defined.md S10, "the model has no
  transition for it". Safe: the model stops. Log entry 9. -/
  | sourceChangedWhileBusy
  deriving DecidableEq, Repr

/-- St right after reset (10_state.md R45). PHASE is the spec's; the other fields are unspecified there, and 0 is
DESIGN CHOICE, log entry 1 (unsafe, and read by no command before it is written). -/
def DigestState.reset : DigestState := ⟨.uninit, ⟨0, 0, 0, 0⟩, 0, Vector.replicate 64 0⟩

/-- The byte source before the host has attached one: DESIGN CHOICE, log entry 7 (the source is the host's and has
no reset value). -/
def ByteSource.absent : ByteSource := ⟨false, 0, []⟩

/-- The machine right after reset (10_state.md R45, R37), with the default configuration record (00_scope.md R10).
`srcReliable` is DESIGN CHOICE, log entry 6; the model's own fields start empty, log entries 2, 4 and 15. -/
def State.reset : State where
  st := DigestState.reset
  digest := Vector.replicate 4 0
  hex := Vector.replicate 8 0
  consumed := 0
  digestValid := false
  hexValid := false
  resNone := false
  busy := false
  faulted := false
  fault := FaultInfo.clear
  cmd := 0
  arg0 := 0
  arg1 := 0
  data := Vector.replicate 16 0
  src := ByteSource.absent
  srcReliable := true
  params := Config.params
  hostMoves := []
  schedule := []
  recorded := []
  draws := 0

end Sys2Proof.Machine
end

