-- ==== Sys2Proof/Machine/Digest.lean ====
section
/-! DEFINITION. The digest primitive's pure functions (40_digest.md R120 to R126, R137), and the byte and word
helpers of 00_scope.md R13 and R14. -/

namespace Sys2Proof.Machine

/-- `rotl32(x, s)` for 1 ≤ s ≤ 31 (R13). -/
def rotl32 (x : Word) (s : Nat) : Word := (x <<< s) ||| (x >>> (32 - s))

/-- Byte `i` of a byte sequence; used only inside the sequence's length. -/
def byteAt (s : List Byte) (i : Nat) : Byte := s.getD i 0

/-- `LE32(s, i)`: bytes i to i + 3, least significant first (R14). -/
def le32 (s : List Byte) (i : Nat) : Word :=
  (byteAt s i).setWidth 32 ||| (byteAt s (i + 1)).setWidth 32 <<< 8 |||
    (byteAt s (i + 2)).setWidth 32 <<< 16 ||| (byteAt s (i + 3)).setWidth 32 <<< 24

/-- `bytesLE32(w)`: the four bytes of a word, least significant first (R14). -/
def bytesLE32 (w : Word) : List Byte :=
  [w.extractLsb' 0 8, w.extractLsb' 8 8, w.extractLsb' 16 8, w.extractLsb' 24 8]

/-- `bytesLE64(v)`: the eight bytes of a u64, least significant first (R14). -/
def bytesLE64 (v : DWord) : List Byte :=
  [v.extractLsb' 0 8, v.extractLsb' 8 8, v.extractLsb' 16 8, v.extractLsb' 24 8,
   v.extractLsb' 32 8, v.extractLsb' 40 8, v.extractLsb' 48 8, v.extractLsb' 56 8]

/-- `fill(v, n)`: n bytes each equal to v (R14). -/
def fillBytes (v : Byte) (n : Nat) : List Byte := List.replicate n v

/-- The nonlinear function of round `r` (40_digest.md R122). -/
def roundFn (r : Nat) (x y z : Word) : Word :=
  match r with
  | 0 => (x &&& y) ||| (~~~x &&& z)
  | 1 => (x &&& z) ||| (y &&& ~~~z)
  | 2 => x ^^^ y ^^^ z
  | _ => y ^^^ (x ||| ~~~z)

/-- The message-word index g(i) (40_digest.md R123). -/
def wordIndex (i : Nat) : Nat :=
  match i / 16 with
  | 0 => i
  | 1 => (5 * i + 1) % 16
  | 2 => (3 * i + 5) % 16
  | _ => (7 * i) % 16

/-- The rotations S_r of round `r` (40_digest.md R123). -/
def roundRotations (r : Nat) : List Nat :=
  match r with
  | 0 => [7, 12, 17, 22]
  | 1 => [5, 9, 14, 20]
  | 2 => [4, 11, 16, 23]
  | _ => [6, 10, 15, 21]

/-- s(i) = S_r[i mod 4] (40_digest.md R123). -/
def rotation (i : Nat) : Nat := (roundRotations (i / 16)).getD (i % 4) 0

/-- K[0] to K[15] (R123). -/
def roundConsts0 : List Word :=
  [0xD76AA478, 0xE8C7B756, 0x242070DB, 0xC1BDCEEE,
   0xF57C0FAF, 0x4787C62A, 0xA8304613, 0xFD469501,
   0x698098D8, 0x8B44F7AF, 0xFFFF5BB1, 0x895CD7BE,
   0x6B901122, 0xFD987193, 0xA679438E, 0x49B40821]

/-- K[16] to K[31] (R123). -/
def roundConsts1 : List Word :=
  [0xF61E2562, 0xC040B340, 0x265E5A51, 0xE9B6C7AA,
   0xD62F105D, 0x02441453, 0xD8A1E681, 0xE7D3FBC8,
   0x21E1CDE6, 0xC33707D6, 0xF4D50D87, 0x455A14ED,
   0xA9E3E905, 0xFCEFA3F8, 0x676F02D9, 0x8D2A4C8A]

/-- K[32] to K[47] (R123). -/
def roundConsts2 : List Word :=
  [0xFFFA3942, 0x8771F681, 0x6D9D6122, 0xFDE5380C,
   0xA4BEEA44, 0x4BDECFA9, 0xF6BB4B60, 0xBEBFBC70,
   0x289B7EC6, 0xEAA127FA, 0xD4EF3085, 0x04881D05,
   0xD9D4D039, 0xE6DB99E5, 0x1FA27CF8, 0xC4AC5665]

/-- K[48] to K[63] (R123). -/
def roundConsts3 : List Word :=
  [0xF4292244, 0x432AFF97, 0xAB9423A7, 0xFC93A039,
   0x655B59C3, 0x8F0CCC92, 0xFFEFF47D, 0x85845DD1,
   0x6FA87E4F, 0xFE2CE6E0, 0xA3014314, 0x4E0811A1,
   0xF7537E82, 0xBD3AF235, 0x2AD7D2BB, 0xEB86D391]

/-- The additive constant K[i] for 0 ≤ i ≤ 63 (40_digest.md R123, the normative table). -/
def roundConst (i : Nat) : Word :=
  (roundConsts0 ++ roundConsts1 ++ roundConsts2 ++ roundConsts3).getD i 0

/-- The words X[0] to X[15] of a block (20_memory.md R67). -/
def blockWords (blk : List Byte) : List Word := (List.range 16).map fun j => le32 blk (4 * j)

/-- Step `i` of the 64-step schedule on (a, b, c, d) (40_digest.md R121). -/
def compressStep (X : List Word) (r : Regs) (i : Nat) : Regs :=
  let f := roundFn (i / 16) r.b r.c r.d
  let t := r.a + f + roundConst i + X.getD (wordIndex i) 0
  ⟨r.d, r.b + rotl32 t (rotation i), r.b, r.c⟩

/-- The 64 steps, before the feed-forward (40_digest.md R121). -/
def compressSteps (X : List Word) (r : Regs) : Regs := (List.range 64).foldl (compressStep X) r

/-- Compress (40_digest.md R121): the 64 steps, then the addition of the block's input values. -/
def compress (r : Regs) (blk : List Byte) : Regs :=
  let out := compressSteps (blockWords blk) r
  ⟨r.a + out.a, r.b + out.b, r.c + out.c, r.d + out.d⟩

/-- The initial values of the round registers (40_digest.md R124). -/
def initialRegs : Regs := ⟨0x67452301, 0xEFCDAB89, 0x98BADCFE, 0x10325476⟩

/-- St as INIT leaves it (40_digest.md R128, 41_range_and_recipes.md R160). -/
def initState : DigestState := ⟨.absorb, initialRegs, 0, Vector.replicate 64 0⟩

/-- St as Zero leaves it (40_digest.md R137). -/
def zeroState : DigestState := ⟨.final, ⟨0, 0, 0, 0⟩, 0, Vector.replicate 64 0⟩

/-- BUF_CNT = St.CNT mod 64 (10_state.md R25). -/
def bufCnt (st : DigestState) : Nat := st.cnt.toNat % 64

/-- One byte of Absorb (40_digest.md R120). -/
def absorbByte (st : DigestState) (b : Byte) : DigestState :=
  let buf := st.buf.set (st.cnt.toNat % 64) b (Nat.mod_lt _ (by decide))
  let cnt := st.cnt + 1
  if cnt.toNat % 64 = 0 then
    { st with regs := compress st.regs buf.toList, cnt := cnt, buf := buf }
  else
    { st with cnt := cnt, buf := buf }

/-- Absorb (40_digest.md R120): the bytes of `s`, first to last. -/
def absorb (st : DigestState) (s : List Byte) : DigestState := s.foldl absorbByte st

/-- What finalization appends (40_digest.md R125): 0x80, the zero bytes, and the bit length modulo 2^64. -/
def padding (cnt : DWord) : List Byte :=
  [0x80] ++ fillBytes 0x00 ((55 + 64 - cnt.toNat % 64) % 64) ++ bytesLE64 (8 * cnt)

/-- The four round registers as 16 bytes (20_memory.md R69). -/
def regsBytes (r : Regs) : List Byte := bytesLE32 r.a ++ bytesLE32 r.b ++ bytesLE32 r.c ++ bytesLE32 r.d

/-- FinalizeFn's digest (40_digest.md R125). The state it leaves is `zeroState` (R137). -/
def finalDigest (st : DigestState) : List Byte := regsBytes (absorb st (padding st.cnt)).regs

/-- `hexdigit(v)` for 0 ≤ v ≤ 15, an ASCII code (40_digest.md R126). -/
def hexDigit (v : Byte) : Byte := if v ≤ 9 then 0x30 + v else 0x61 + v - 10

/-- Hex (40_digest.md R126): digest byte 0 first, high nibble first. -/
def hexBytes (d : List Byte) : List Byte := d.flatMap fun (b : Byte) => [hexDigit (b >>> 4), hexDigit (b &&& 0x0F)]

/-- Byte arrays in registers, packed little-endian (20_memory.md R70): DIGESTn = LE32(d, 4n). -/
def packDigest (d : List Byte) : Vector Word 4 := #v[le32 d 0, le32 d 4, le32 d 8, le32 d 12]

/-- HEXn = LE32(h, 4n) (10_state.md R28). -/
def packHex (h : List Byte) : Vector Word 8 :=
  #v[le32 h 0, le32 h 4, le32 h 8, le32 h 12, le32 h 16, le32 h 20, le32 h 24, le32 h 28]

/-- The bytes held in a list of registers, packed little-endian (20_memory.md R70). -/
def unpackWords (ws : List Word) : List Byte := ws.flatMap bytesLE32

end Sys2Proof.Machine
end

