-- ==== Sys2Proof/Machine/Operands.lean ====
section
/-! DEFINITION. Where a command's operands come from (30_encoding.md R92, R93): ARG0, ARG1 and the data window as
they stand when the command executes (R90). Nothing is sign-extended, scaled or shifted (R93). PAD's fill byte comes
with the decoded command. -/

namespace Sys2Proof.Machine

/-- The data window W[0] to W[63] held in DATA0 to DATA15 (10_state.md R34). -/
def window (s : State) : List Byte := unpackWords s.data.toList

/-- UPDATE's LEN: ARG0, all 32 bits (R92, R93). -/
def lenOperand (s : State) : Nat := s.arg0.toNat

/-- UPDATE's bytes: W[0 .. LEN) (R92). -/
def updateBytes (s : State) : List Byte := (window s).take (lenOperand s)

/-- PAD's COUNT: ARG0 as an unsigned number (R92, R93). -/
def countOperand (s : State) : Nat := s.arg0.toNat

/-- DIGEST_RANGE's OFFSET: zext_64 of ARG0 (R92, R93). -/
def offsetOperand (s : State) : Nat := (s.arg0.setWidth 64).toNat

/-- DIGEST_RANGE's MAXLEN: zext_64 of ARG1; 0 means "rest of file" (R92, R93). -/
def maxLenOperand (s : State) : Nat := (s.arg1.setWidth 64).toNat

/-- Effective length (41_range_and_recipes.md R161) of a read of at most `m` bytes from `o` in a source of reported
size `size`. Subtraction on `Nat` is the spec's `sat`. -/
def effectiveLength (size o m : Nat) : Nat :=
  let avail := size - o
  if m = 0 then avail else min m avail

end Sys2Proof.Machine
end

