-- ==== Sys2Proof/Machine/Flags.lean ====
section
/-! DEFINITION. The status flags: how STATUS and FAULT show them (10_state.md R38, R39), the checks that read them
(60_exceptions.md R202), and every write of them by a completing command (10_state.md R47). -/

namespace Sys2Proof.Machine

/-- St.PHASE as its 2-bit value (10_state.md R21). -/
def phaseBits : Phase → BitVec 2
  | .uninit => 0
  | .absorb => 1
  | .final => 2

/-- FAULT.CODE as its 4-bit value (60_exceptions.md R201). -/
def faultCodeBits : FaultCode → BitVec 4
  | .none => 0
  | .illegalCmd => 1
  | .notInit => 2
  | .finalized => 3
  | .badLen => 4
  | .noDigest => 5
  | .busyWrite => 6
  | .busAccess => 7

/-- STATUS.BUF_CNT: St.CNT mod 64 in ABSORB, 0 otherwise (10_state.md R38). -/
def bufCntField (st : DigestState) : BitVec 6 :=
  match st.phase with
  | .uninit => 0
  | .absorb => BitVec.ofNat 6 (bufCnt st)
  | .final => 0

/-- STATUS from its fields: [13:8] BUF_CNT, [6] FAULTED, [5] RES_NONE, [4] HEX_VALID, [3] DIGEST_VALID, [2:1] PHASE,
[0] BUSY, and the reserved [31:14] and [7] 0 (10_state.md R38). -/
def packStatus (bufCount : BitVec 6) (faulted resNone hexValid digestValid : BitVec 1) (phase : BitVec 2)
    (busy : BitVec 1) : Word :=
  bufCount.setWidth 32 <<< 8 ||| faulted.setWidth 32 <<< 6 ||| resNone.setWidth 32 <<< 5 |||
    hexValid.setWidth 32 <<< 4 ||| digestValid.setWidth 32 <<< 3 ||| phase.setWidth 32 <<< 1 ||| busy.setWidth 32

/-- STATUS between commands (10_state.md R38). -/
def statusWord (s : State) : Word :=
  packStatus (bufCntField s.st) (BitVec.ofBool s.faulted) (BitVec.ofBool s.resNone) (BitVec.ofBool s.hexValid)
    (BitVec.ofBool s.digestValid) (phaseBits s.st.phase) (BitVec.ofBool s.busy)

/-- STATUS while BUSY = 1: BUSY and the current FAULTED, every other field taken from the free value `free`
(10_state.md R38, 70_reset_and_hazards.md R244). The reserved bits read 0: DEDUCED from 93_implementation_defined.md
S4 ("hardwired and never written"), log entry 10. -/
def statusWordBusy (free : Word) (s : State) : Word :=
  packStatus (free.extractLsb' 8 6) (BitVec.ofBool s.faulted) (free.extractLsb' 5 1) (free.extractLsb' 4 1)
    (free.extractLsb' 3 1) (free.extractLsb' 1 2) (BitVec.ofBool s.busy)

/-- FAULT: [24] WRITE, [23:16] OFFSET, [15:8] CMD_OPC, [3:0] CODE, and the reserved [31:25] and [7:4] 0
(10_state.md R39). -/
def faultWord (f : FaultInfo) : Word :=
  (BitVec.ofBool f.write).setWidth 32 <<< 24 ||| f.offset.setWidth 32 <<< 16 ||| f.cmdOpc.setWidth 32 <<< 8 |||
    (faultCodeBits f.code).setWidth 32

/-- The phase check of UPDATE, PAD and FINALIZE (60_exceptions.md R202). -/
def phaseCheck (s : State) : Option FaultCode :=
  match s.st.phase with
  | .uninit => some .notInit
  | .absorb => none
  | .final => some .finalized

/-- UPDATE's checks, in order: the phase, then ARG0 > 64 (60_exceptions.md R202). -/
def updateCheck (s : State) : Option FaultCode :=
  match phaseCheck s with
  | some code => some code
  | none => if 64 < lenOperand s then some .badLen else none

/-- RENDER_HEX's check (60_exceptions.md R202). -/
def digestCheck (s : State) : Option FaultCode := if s.digestValid then none else some .noDigest

/-- FINALIZE's flag writes (10_state.md R47; 40_digest.md R131). -/
def flagsFinalized (s : State) : State := { s with digestValid := true, hexValid := false, resNone := false }

/-- RENDER_HEX's flag write (10_state.md R47; 40_digest.md R132). -/
def flagsRendered (s : State) : State := { s with hexValid := true }

/-- A recipe's flag writes with a result (10_state.md R47; 41_range_and_recipes.md R163). -/
def flagsSome (s : State) : State := { s with digestValid := true, hexValid := true, resNone := false }

/-- A recipe's flag writes with no result (10_state.md R47; 41_range_and_recipes.md R163). -/
def flagsNone (s : State) : State := { s with digestValid := false, hexValid := false, resNone := true }

end Sys2Proof.Machine
end

