-- ==== Sys2Proof/Machine/Ops.lean ====
section
/-! DEFINITION. The operations the commands share: the fault entry and its one exit (60_exceptions.md R204, R206),
the byte-source read (20_memory.md R65), RangeRead (41_range_and_recipes.md R162), and the result commits
(41_range_and_recipes.md R163). -/

namespace Sys2Proof.Machine

/-- Fault entry (60_exceptions.md R204): the FAULT register, FAULTED and BUSY; nothing else changes. -/
def takeFault (code : FaultCode) (cmdOpc offset : Byte) (write : Bool) (s : State) : State :=
  { s with fault := ⟨code, cmdOpc, offset, write⟩, faulted := true, busy := false }

/-- A command fault: CMD_OPC is bits [7:0] of the command word, which is taken from CMD (60_exceptions.md R204,
20_memory.md R79). -/
def raiseCommand (code : FaultCode) (s : State) : State := takeFault code (s.cmd.extractLsb' 0 8) 0 false s

/-- A host-access fault: OFFSET is the accessed offset, WRITE says whether it was a write (60_exceptions.md R204). -/
def raiseAccess (code : FaultCode) (offset : Byte) (write : Bool) (s : State) : State :=
  takeFault code 0 offset write s

/-- Reset (70_reset_and_hazards.md R240), the only exit from a fault (60_exceptions.md R206): every piece of the
engine's state takes its value of 10_state.md R45. The byte source, the launch parameter, the configuration record and
the host's own state are not the engine's and stay (10_state.md R46). -/
def applyReset (s : State) : State :=
  { State.reset with
    src := s.src
    srcReliable := s.srcReliable
    params := s.params
    hostMoves := s.hostMoves
    schedule := s.schedule
    recorded := s.recorded
    draws := s.draws }

/-- The end of a command that does not fault: BUSY = 0 (10_state.md R32, R47). -/
def complete (s : State) : State := { s with busy := false }

/-- One command that passed the decode: the first fault its checks give, or its effect and then its end
(60_exceptions.md R200, R202). -/
def runCommand (check : Option FaultCode) (effect : State → State) (s : State) :
    Host.Outcome State Fault Refusal :=
  match check with
  | some code => .next (raiseCommand code s)
  | none => .next (complete (effect s))

/-- One free value has been taken. -/
def drawOne (s : State) : State := { s with draws := s.draws + 1 }

/-- St replaced as a whole. -/
def setSt (st : DigestState) (s : State) : State := { s with st := st }

/-- CONSUMED := k (10_state.md R29). -/
def setConsumed (k : Nat) (s : State) : State := { s with consumed := BitVec.ofNat 64 k }

/-- Absorb into St (40_digest.md R120). -/
def absorbInto (bytes : List Byte) (s : State) : State := setSt (absorb s.st bytes) s

/-- How many bytes a byte-source read could deliver at most: m of 20_memory.md R65. -/
def srcReach (s : State) (offset n : Nat) : Nat := min n (s.src.data.length - offset)

/-- How many bytes a byte-source read delivers: all it can reach when SRC_RELIABLE, else a draw in 0 .. m
(20_memory.md R65). The draw is a free value, log entry 5. -/
def srcCount (s : State) (offset n : Nat) : Nat :=
  if s.srcReliable then srcReach s offset n else Config.freeNat s.draws % (srcReach s offset n + 1)

/-- The bytes SrcRead(offset, n) delivers (20_memory.md R65): SRC_DATA[offset .. offset + k). -/
def srcBytes (s : State) (offset n : Nat) : List Byte := (s.src.data.drop offset).take (srcCount s offset n)

/-- The state after a byte-source read: an unreliable read has taken one draw; nothing else changes
(20_memory.md R64, R65). -/
def srcAfter (s : State) : State := if s.srcReliable then s else drawOne s

/-- The bytes RangeRead(o, m) absorbs: none when the source cannot be opened, else what the read of the effective
length delivers (41_range_and_recipes.md R161, R162). -/
def rangeBytes (o m : Nat) (s : State) : List Byte :=
  if s.src.present then srcBytes s o (effectiveLength s.src.size.toNat o m) else []

/-- RangeRead(o, m) on the state (41_range_and_recipes.md R160, R162): a fresh St that has absorbed the bytes read.
Its return value k is the length of `rangeBytes`. -/
def rangeRead (o m : Nat) (s : State) : State :=
  setSt (absorb initState (rangeBytes o m s)) (if s.src.present then srcAfter s else s)

/-- CommitSome (41_range_and_recipes.md R163). -/
def commitSome (s : State) : State :=
  flagsSome
    { s with
      st := zeroState
      digest := packDigest (finalDigest s.st)
      hex := packHex (hexBytes (finalDigest s.st)) }

/-- CommitNone (41_range_and_recipes.md R163). -/
def commitNone (s : State) : State :=
  flagsNone
    { s with
      st := zeroState
      digest := Vector.replicate 4 0
      hex := Vector.replicate 8 0 }

/-- The end common to every recipe that has read its bytes: CONSUMED := k; no result when k = 0, before any padding
(41_range_and_recipes.md R174); else the padding bytes for k, and the result. -/
def commitRead (padFor : Nat → List Byte) (k : Nat) (s : State) : State :=
  if k = 0 then commitNone (setConsumed k s) else commitSome (absorbInto (padFor k) (setConsumed k s))

/-- The bytes that make up the shortfall of a canonical size: fill(v, sat(c - k)) (41_range_and_recipes.md R164). -/
def shortfall (v : Byte) (c k : Nat) : List Byte := fillBytes v (c - k)

end Sys2Proof.Machine
end

