-- ==== Sys2Proof/Machine/Nes.lean ====
section
/-! DEFINITION. The NES recipe (41_range_and_recipes.md section 4). Its functions take the configuration record as
an argument (00_scope.md R6, R10). -/

namespace Sys2Proof.Machine

/-- The declared bank count, h[4] (R168). -/
def nesBanks (h : List Byte) : Byte := byteAt h 4

/-- The trainer flag, bit 2 of h[6] (R168). -/
def nesTrainer (h : List Byte) : Bool := byteAt h 6 &&& 0x04 != 0

/-- The mapper number: the high nibble of h[6] low, the high nibble of h[7] high (R169). -/
def nesMapper (h : List Byte) : Byte := (byteAt h 6 >>> 4) ||| (byteAt h 7 &&& 0xF0)

/-- Power-of-two rounding of a bank count: 0 at 0, else the least power of two not below it (R170). A byte is at
most 255, so 2^8 always suffices. -/
def nextPow2 (v : Byte) : Nat :=
  if v = 0 then 0 else (((List.range 9).map (2 ^ ·)).find? (fun p => v.toNat ≤ p)).getD 0

/-- n: the banks as declared for the mappers of NES_NOROUND, rounded up otherwise (R171). -/
def nesBankCount (p : Params) (h : List Byte) : Nat :=
  if nesMapper h ∈ p.nesNoRound then (nesBanks h).toNat else nextPow2 (nesBanks h)

/-- The canonical window c = NES_BANK_SIZE × n (R171). -/
def nesWindow (p : Params) (h : List Byte) : Nat := p.nesBankSize * nesBankCount p h

/-- The start offset: past the header, and past one trainer skip when the flag is set (R172). -/
def nesStart (p : Params) (h : List Byte) : Nat :=
  p.nesHeaderLen + if nesTrainer h then p.nesTrainerSkip else 0

/-- The header read is whole and carries the magic (R168, R173). -/
def nesHeaderOk (p : Params) (h : List Byte) : Bool :=
  p.nesHeaderLen ≤ h.length && h.take 4 == p.nesMagic

/-- The NES recipe past an accepted header `h`: the range read of the window, then the 0xFF shortfall (R173). -/
def nesBody (p : Params) (h : List Byte) (s : State) : State :=
  commitRead (shortfall p.fillNes (nesWindow p h)) (rangeBytes (nesStart p h) (nesWindow p h) s).length
    (rangeRead (nesStart p h) (nesWindow p h) s)

/-- The NES recipe (R173). The header bytes are read, not absorbed. -/
def hashNes (p : Params) (s : State) : State :=
  if s.src.present then
    if nesHeaderOk p (srcBytes s 0 p.nesHeaderLen) then nesBody p (srcBytes s 0 p.nesHeaderLen) (srcAfter s)
    else commitNone (setConsumed 0 (srcAfter s))
  else commitNone (setConsumed 0 s)

/-- HASH_NES (R173), with the machine's record. -/
def execHashNes (s : State) : Host.Outcome State Fault Refusal :=
  runCommand none (fun s => hashNes s.params s) s

end Sys2Proof.Machine
end

