-- ==== Sys2Proof/Machine/Primitive.lean ====
section
/-! DEFINITION. The five commands of the digest primitive (40_digest.md section 2). -/

namespace Sys2Proof.Machine

/-- INIT (40_digest.md R128): legal in every phase. -/
def execInit (s : State) : Host.Outcome State Fault Refusal := runCommand none (setSt initState) s

/-- UPDATE (40_digest.md R129). -/
def execUpdate (s : State) : Host.Outcome State Fault Refusal :=
  runCommand (updateCheck s) (fun s => absorbInto (updateBytes s) s) s

/-- PAD (40_digest.md R130). -/
def execPad (fill : Byte) (s : State) : Host.Outcome State Fault Refusal :=
  runCommand (phaseCheck s) (fun s => absorbInto (fillBytes fill (countOperand s)) s) s

/-- FINALIZE (40_digest.md R131): the digest of FinalizeFn, the zeroed state, the flags. -/
def execFinalize (s : State) : Host.Outcome State Fault Refusal :=
  runCommand (phaseCheck s)
    (fun s => flagsFinalized { s with st := zeroState, digest := packDigest (finalDigest s.st) }) s

/-- RENDER_HEX (40_digest.md R132): legal in every phase once there is a digest. -/
def execRenderHex (s : State) : Host.Outcome State Fault Refusal :=
  runCommand (digestCheck s)
    (fun s => flagsRendered { s with hex := packHex (hexBytes (unpackWords s.digest.toList)) }) s

end Sys2Proof.Machine
end

