-- ==== Sys2Proof/Machine/Range.lean ====
section
/-! DEFINITION. The range helper as a command, and the whole-file recipes (41_range_and_recipes.md sections 1
and 3). None of them can fault once decoded (60_exceptions.md R202). -/

namespace Sys2Proof.Machine

/-- DIGEST_RANGE (41_range_and_recipes.md R162): the state is left in ABSORB, not finalised. -/
def execDigestRange (s : State) : Host.Outcome State Fault Refusal :=
  runCommand none
    (fun s =>
      setConsumed (rangeBytes (offsetOperand s) (maxLenOperand s) s).length
        (rangeRead (offsetOperand s) (maxLenOperand s) s)) s

/-- A recipe over the whole file, with the padding it appends after k bytes read (41_range_and_recipes.md R165 to
R167). -/
def hashWholeFile (padFor : Nat → List Byte) (s : State) : State :=
  commitRead padFor (rangeBytes 0 0 s).length (rangeRead 0 0 s)

/-- HASH_GENERIC (41_range_and_recipes.md R165): no padding at any size. -/
def execHashGeneric (s : State) : Host.Outcome State Fault Refusal :=
  runCommand none (hashWholeFile fun _ => []) s

/-- The SNES recipe for a configuration record (41_range_and_recipes.md R166). -/
def hashSnes (p : Params) (s : State) : State := hashWholeFile (shortfall p.fillSnes p.canonSnes) s

/-- HASH_SNES (41_range_and_recipes.md R166), with the machine's record. -/
def execHashSnes (s : State) : Host.Outcome State Fault Refusal :=
  runCommand none (fun s => hashSnes s.params s) s

/-- The Genesis recipe for a configuration record (41_range_and_recipes.md R167). -/
def hashGenesis (p : Params) (s : State) : State := hashWholeFile (shortfall p.fillGenesis p.canonGenesis) s

/-- HASH_GENESIS (41_range_and_recipes.md R167), with the machine's record. -/
def execHashGenesis (s : State) : Host.Outcome State Fault Refusal :=
  runCommand none (fun s => hashGenesis s.params s) s

end Sys2Proof.Machine
end

