-- ==== Sys2Proof/Machine/Dispatch.lean ====
section
/-! DEFINITION. One arm per command (30_encoding.md R94): the meaning of a decoded command. -/

namespace Sys2Proof.Machine

def exec (i : Instr) (s : State) : Host.Outcome State Fault Refusal :=
  match i with
  | .init => Sys2Proof.Machine.execInit s
  | .update => Sys2Proof.Machine.execUpdate s
  | .pad fill => Sys2Proof.Machine.execPad fill s
  | .finalize => Sys2Proof.Machine.execFinalize s
  | .renderHex => Sys2Proof.Machine.execRenderHex s
  | .digestRange => Sys2Proof.Machine.execDigestRange s
  | .hashGeneric => Sys2Proof.Machine.execHashGeneric s
  | .hashSnes => Sys2Proof.Machine.execHashSnes s
  | .hashGenesis => Sys2Proof.Machine.execHashGenesis s
  | .hashNes => Sys2Proof.Machine.execHashNes s

end Sys2Proof.Machine
end

