-- ==== Sys2Proof/Machine/RegisterMap.lean ====
section
/-! DEFINITION. The register map (10_state.md R37): which register stands at an offset, who may write it, and what a
read returns (10_state.md R38 to R43, 70_reset_and_hazards.md R244). -/

namespace Sys2Proof.Machine

/-- The host-visible registers (R37). -/
inductive HostReg where
  | cmd
  | status
  | fault
  | arg0
  | arg1
  | consumedLo
  | consumedHi
  | stA
  | stB
  | stC
  | stD
  | cntLo
  | cntHi
  | digest (n : Fin 4)
  | hex (n : Fin 8)
  | data (n : Fin 16)
  deriving DecidableEq, Repr

/-- The byte offset of a register (R37). -/
def regOffset : HostReg → Byte
  | .cmd => 0x00
  | .status => 0x04
  | .fault => 0x08
  | .arg0 => 0x0C
  | .arg1 => 0x10
  | .consumedLo => 0x14
  | .consumedHi => 0x18
  | .stA => 0x20
  | .stB => 0x24
  | .stC => 0x28
  | .stD => 0x2C
  | .cntLo => 0x30
  | .cntHi => 0x34
  | .digest n => BitVec.ofNat 8 (0x40 + 4 * n.val)
  | .hex n => BitVec.ofNat 8 (0x50 + 4 * n.val)
  | .data n => BitVec.ofNat 8 (0x80 + 4 * n.val)

/-- Every register, in the order of the map (R37). -/
def allRegs : List HostReg :=
  [.cmd, .status, .fault, .arg0, .arg1, .consumedLo, .consumedHi, .stA, .stB, .stC, .stD, .cntLo, .cntHi] ++
    (List.finRange 4).map .digest ++ (List.finRange 8).map .hex ++ (List.finRange 16).map .data

/-- The register at an offset: `none` for a reserved offset (R44) and for one that is no multiple of 4 (R62). -/
def regAt (offset : Byte) : Option HostReg := allRegs.find? fun r => regOffset r == offset

/-- The registers of access RW (R37). -/
def regWritable : HostReg → Bool
  | .cmd => true
  | .status => false
  | .fault => false
  | .arg0 => true
  | .arg1 => true
  | .consumedLo => false
  | .consumedHi => false
  | .stA => false
  | .stB => false
  | .stC => false
  | .stD => false
  | .cntLo => false
  | .cntHi => false
  | .digest _ => false
  | .hex _ => false
  | .data _ => true

/-- The registers that read back the digest state, unspecified while it is UNINIT (R40, R41). -/
def readsDigestState : HostReg → Bool
  | .cmd => false
  | .status => false
  | .fault => false
  | .arg0 => false
  | .arg1 => false
  | .consumedLo => false
  | .consumedHi => false
  | .stA => true
  | .stB => true
  | .stC => true
  | .stD => true
  | .cntLo => true
  | .cntHi => true
  | .digest _ => false
  | .hex _ => false
  | .data _ => false

/-- What a register holds between commands (R27 to R43). -/
def regValue (r : HostReg) (s : State) : Word :=
  match r with
  | .cmd => s.cmd
  | .status => statusWord s
  | .fault => faultWord s.fault
  | .arg0 => s.arg0
  | .arg1 => s.arg1
  | .consumedLo => s.consumed.extractLsb' 0 32
  | .consumedHi => s.consumed.extractLsb' 32 32
  | .stA => s.st.regs.a
  | .stB => s.st.regs.b
  | .stC => s.st.regs.c
  | .stD => s.st.regs.d
  | .cntLo => s.st.cnt.extractLsb' 0 32
  | .cntHi => s.st.cnt.extractLsb' 32 32
  | .digest n => s.digest[n]
  | .hex n => s.hex[n]
  | .data n => s.data[n]

/-- Does a read of the register take a free value? While BUSY = 1 every register but FAULT does, STATUS in its
fields other than BUSY and FAULTED (70_reset_and_hazards.md R244); while UNINIT the digest-state readbacks do
(R40, R41). -/
def readIsDraw (r : HostReg) (s : State) : Bool :=
  if s.busy then r != .fault else readsDigestState r && s.st.phase == .uninit

/-- The value of a read, with the next free value where the spec leaves it open. -/
def readValue (r : HostReg) (s : State) : Word :=
  if readIsDraw r s then
    if r = .status then statusWordBusy (Config.freeBits s.draws 32) s else Config.freeBits s.draws 32
  else regValue r s

/-- The state after a read: no side effect (20_memory.md R63), but a free value taken is taken. -/
def readAfter (r : HostReg) (s : State) : State := if readIsDraw r s then drawOne s else s

/-- An admitted write to a writable register (20_memory.md R63, R81): CMD latches the command and starts it
(10_state.md R32), ARG0, ARG1 and DATA change only themselves. A read-only register has no write to perform: the
access has faulted before (60_exceptions.md R203). -/
def writeReg (r : HostReg) (v : Word) (s : State) : State :=
  match r with
  | .cmd => { s with cmd := v, busy := true }
  | .arg0 => { s with arg0 := v }
  | .arg1 => { s with arg1 := v }
  | .data n => { s with data := s.data.set n v }
  | .status => s
  | .fault => s
  | .consumedLo => s
  | .consumedHi => s
  | .stA => s
  | .stB => s
  | .stC => s
  | .stD => s
  | .cntLo => s
  | .cntHi => s
  | .digest _ => s
  | .hex _ => s

end Sys2Proof.Machine
end

