-- ==== Sys2Proof/Machine/HostPort.lean ====
section
/-! DEFINITION. What the host does to the engine (20_memory.md R81): register accesses with their checks in the
order of 60_exceptions.md R203, the polling loop of 30_encoding.md R101, attaching a source, and reset. -/

namespace Sys2Proof.Machine

/-- The register an access reaches: the access is 32 bits wide, its offset a multiple of 4 and not reserved
(20_memory.md R62, 10_state.md R44). -/
def accessTarget (width : Nat) (offset : Byte) : Option HostReg :=
  if width = 32 ∧ offset.toNat % 4 = 0 then regAt offset else none

/-- The host records a value it has read (30_encoding.md R100), newest first. -/
def recordRead (width : Nat) (offset : Byte) (value : BitVec width) (s : State) : State :=
  { s with recorded := ⟨width, offset, value⟩ :: s.recorded }

/-- A host read (60_exceptions.md R203). A read of a mapped register with an aligned 32-bit access returns its value,
faulted or not. Any other read is the fault BUS_ACCESS and returns 0, or, while FAULTED = 1, returns an unspecified
value and raises nothing. -/
def hostRead (width : Nat) (offset : Byte) (s : State) : State :=
  match accessTarget width offset with
  | some r => recordRead width offset ((readValue r s).setWidth width) (readAfter r s)
  | none =>
    if s.faulted then recordRead width offset (Config.freeBits s.draws width) (drawOne s)
    else recordRead width offset 0 (raiseAccess .busAccess offset false s)

/-- A host write (60_exceptions.md R203), its checks in the rule's order: dropped while FAULTED = 1; BUS_ACCESS;
BUSY_WRITE; else performed. -/
def hostWrite (width : Nat) (offset : Byte) (v : Word) (s : State) : State :=
  if s.faulted then s
  else
    match accessTarget width offset with
    | none => raiseAccess .busAccess offset true s
    | some r =>
      if regWritable r then
        if s.busy then raiseAccess .busyWrite offset true s else writeReg r v s
      else raiseAccess .busAccess offset true s

/-- One turn of `wait` (30_encoding.md R101): a read of STATUS; the loop goes on while BUSY reads 1. -/
def hostWait (s : State) : State :=
  let after := hostRead 32 (regOffset .status) s
  if (readValue .status s).getLsbD 0 then { after with hostMoves := .wait :: after.hostMoves } else after

/-- Attaching a source (20_memory.md R81): only while BUSY = 0 (70_reset_and_hazards.md R248;
93_implementation_defined.md S10, `refuse`), and a reliable source is as long as its size (10_state.md R36). -/
def hostAttach (src : ByteSource) (s : State) : Host.Outcome State Fault Refusal :=
  if s.busy then .refused .sourceChangedWhileBusy
  else if src.wf s.srcReliable then .next { s with src := src }
  else .fault .sourceSizeMismatch

/-- One host move (20_memory.md R81). -/
def hostMove (m : HostMove) (s : State) : Host.Outcome State Fault Refusal :=
  match m with
  | .read width offset => .next (hostRead width offset s)
  | .write width offset v => .next (hostWrite width offset v s)
  | .wait => .next (hostWait s)
  | .attach src => hostAttach src s
  | .reset => .next (applyReset s)

/-- The host's turn: its next move, if it has one. -/
def hostTurn (s : State) : Host.Outcome State Fault Refusal :=
  match s.hostMoves with
  | [] => .next s
  | m :: rest => hostMove m { s with hostMoves := rest }

end Sys2Proof.Machine
end

