-- ==== Sys2Proof/Machine/Engine.lean ====
section
/-! DEFINITION. The engine's turn, and who moves next (60_exceptions.md R209). -/

namespace Sys2Proof.Machine

/-- The pending command executes (60_exceptions.md R202): the word held in CMD is decoded, and a word that is no
command is the fault ILLEGAL_CMD. -/
def runPending (s : State) : Host.Outcome State Fault Refusal :=
  match decode s.cmd with
  | some i => exec i s
  | none => .next (raiseCommand .illegalCmd s)

/-- The engine's turn: the pending command, if there is one. An idle engine holds its state (60_exceptions.md R215),
and while FAULTED = 1 it executes no command (R205). -/
def engineTurn (s : State) : Host.Outcome State Fault Refusal :=
  if s.busy && !s.faulted then runPending s else .next s

/-- Who moves next when the schedule does not say: the engine when a command is pending, else the host. A pending
command is thus eventually executed (70_reset_and_hazards.md R251). Log entry 2. -/
def defaultAgent (s : State) : Agent := if s.busy then .engine else .host

/-- One agent's turn. -/
def agentTurn (a : Agent) (s : State) : Host.Outcome State Fault Refusal :=
  match a with
  | .engine => engineTurn s
  | .host => hostTurn s

/-- One step of the run: the agent the schedule names, else the default one. -/
def nextTurn (s : State) : Host.Outcome State Fault Refusal :=
  match s.schedule with
  | [] => agentTurn (defaultAgent s) s
  | a :: rest => agentTurn a { s with schedule := rest }

/-- The command word `w` placed so that the very next step executes it: held in CMD and pending, as an accepted host
write to CMD leaves it (10_state.md R32), the engine next to move, and no fault in the way (a faulted engine executes
nothing, 60_exceptions.md R205). Log entry 3. -/
def placeCommand (w : Word) (s : State) : State :=
  { s with cmd := w, busy := true, faulted := false, fault := FaultInfo.clear, schedule := .engine :: s.schedule }

end Sys2Proof.Machine
end

