-- ==== Sys2Proof/Machine/Instances.lean ====
section
/-! DEFINITION. Several engines (60_exceptions.md R213): each with its own registers, state and byte source, and no
shared resource. -/

namespace Sys2Proof.Machine

/-- Engine `n` of a system takes one step; an engine that is not there takes none. Whether the unspecified values two
engines draw may differ the spec leaves open; here two engines at equal draw counters take equal values, since there is
one sequence of free values: DESIGN CHOICE, log entry 17. -/
def stepEngine (engines : List State) (n : Nat) : Host.Outcome (List State) Fault Refusal :=
  match engines[n]? with
  | none => .next engines
  | some s =>
    match step s with
    | .next t => .next (engines.set n t)
    | .fault r => .fault r
    | .refused r => .refused r

end Sys2Proof.Machine
end

