-- ==== Sys2Proof/Machine/Chunks.lean ====
section
/-! DEFINITION. The source's chunked streaming (40_digest.md R127, 92_eei_decisions.md D29): READ_CHUNK and PAD_CHUNK
split a byte sequence before it is absorbed. No result depends on them; the commands absorb in one piece. -/

namespace Sys2Proof.Machine

/-- Consecutive pieces of `n` items, the last one maybe shorter; the first argument bounds their number. -/
def piecesUpTo {α : Type} (n : Nat) : Nat → List α → List (List α)
  | 0, _ => []
  | _ + 1, [] => []
  | fuel + 1, x :: xs => (x :: xs).take n :: piecesUpTo n fuel ((x :: xs).drop n)

/-- Consecutive pieces of `n` items, the last one maybe shorter; none of the empty sequence. -/
def pieces {α : Type} (n : Nat) (s : List α) : List (List α) := piecesUpTo n s.length s

/-- Absorbing chunk by chunk (R127). -/
def absorbChunked (n : Nat) (st : DigestState) (s : List Byte) : DigestState := (pieces n s).foldl absorb st

end Sys2Proof.Machine
end

