-- ==== Sys2Proof/Safety.lean ====
section
/-! DEFINITION. What claims about the engine are stated in: MD5 block by block, the run's end and its observation
(70_reset_and_hazards.md R252), what is the engine's own state, and the invariant of the machine. -/

namespace Sys2Proof.Safety

open Sys2Proof.Machine

/-- A message as finalization pads it (40_digest.md R125), from its length alone. -/
def paddedMessage (msg : List Byte) : List Byte :=
  msg ++ [0x80] ++ fillBytes 0x00 ((119 - msg.length % 64) % 64) ++ bytesLE64 (BitVec.ofNat 64 (8 * msg.length))

/-- MD5 of a message, one 64-byte block at a time (00_scope.md R2; 40_digest.md R120 names the source's
block-at-a-time loop): the reference the engine's byte-at-a-time digest is compared with. -/
def md5 (msg : List Byte) : List Byte :=
  regsBytes ((pieces 64 (paddedMessage msg)).foldl compress initialRegs)

/-- A run of a host program ends when the host has issued its last access and BUSY = 0 (R252). -/
def runEnded (s : State) : Bool := s.hostMoves.isEmpty && !s.busy

/-- The observation of an ended run: the register values of the map, and `none` for a register whose read is
unspecified, of which the definition "does not say" what it returns (R252; 10_state.md R40, R41). -/
def observation (s : State) : List (HostReg × Option Word) :=
  allRegs.map fun r => (r, if readIsDraw r s then none else some (regValue r s))

/-- "FAULTED = 0 as a premise of every claim about results" (R252). -/
def resultsTrusted (s : State) : Bool := runEnded s && !s.faulted

/-- The engine's own state (10_state.md R45) of `s` beside the byte source, launch parameter, configuration record and
host side of `t`. -/
def engineWithHostOf (s t : State) : State :=
  { s with
    src := t.src
    srcReliable := t.srcReliable
    params := t.params
    hostMoves := t.hostMoves
    schedule := t.schedule
    recorded := t.recorded
    draws := t.draws }

/-- `t` has the engine state of `s`. -/
def sameEngine (s t : State) : Prop := t = engineWithHostOf s t

/-- Every piece of engine state has the value 10_state.md R45 states for it after reset. St.A to St.D, St.CNT and
St.BUF, which R45 leaves unspecified, are not mentioned. -/
def hasResetValues (t : State) : Prop :=
  t.busy = false ∧ t.st.phase = .uninit ∧ t.digest = Vector.replicate 4 0 ∧ t.hex = Vector.replicate 8 0 ∧
    t.consumed = 0 ∧ t.digestValid = false ∧ t.hexValid = false ∧ t.resNone = false ∧ t.faulted = false ∧
    t.fault = ⟨.none, 0, 0, false⟩ ∧ t.cmd = 0 ∧ t.arg0 = 0 ∧ t.arg1 = 0 ∧ t.data = Vector.replicate 16 0

/-- The registers only the host writes are as before: ARG0, ARG1, the data window, CMD (10_state.md R33, R34, R35),
and so are the byte source, the launch parameter and the configuration record (R36, R46), the host's moves, the
schedule and what the host has read. -/
def sameInputs (s t : State) : Prop :=
  t.arg0 = s.arg0 ∧ t.arg1 = s.arg1 ∧ t.data = s.data ∧ t.cmd = s.cmd ∧ t.src = s.src ∧
    t.srcReliable = s.srcReliable ∧ t.params = s.params ∧ t.hostMoves = s.hostMoves ∧ t.schedule = s.schedule ∧
    t.recorded = s.recorded

/-- The result registers and flags of 10_state.md R27 to R30 are as before. -/
def sameResults (s t : State) : Prop :=
  t.digest = s.digest ∧ t.hex = s.hex ∧ t.consumed = s.consumed ∧ t.digestValid = s.digestValid ∧
    t.hexValid = s.hexValid ∧ t.resNone = s.resNone

/-- The fault registers are as before (10_state.md R31). -/
def sameFault (s t : State) : Prop := t.faulted = s.faulted ∧ t.fault = s.fault

/-- St as the spec writes it after FINALIZE and every recipe: all zero, PHASE = FINAL (40_digest.md R137). -/
def zeroed : DigestState := ⟨.final, ⟨0, 0, 0, 0⟩, 0, Vector.replicate 64 0⟩

/-- The fault entry of a command (60_exceptions.md R204), written out. -/
def afterCommandFault (code : FaultCode) (s : State) : State :=
  { s with fault := ⟨code, s.cmd.extractLsb' 0 8, 0, false⟩, faulted := true, busy := false }

/-- The fault entry of a host access (60_exceptions.md R204), written out. -/
def afterAccessFault (code : FaultCode) (offset : Byte) (write : Bool) (s : State) : State :=
  { s with fault := ⟨code, 0, offset, write⟩, faulted := true, busy := false }

/-- A recipe's end with the digest `d` after `k` source bytes (41_range_and_recipes.md R163, R165), written out. -/
def afterResult (d : List Byte) (k : Nat) (s : State) : State :=
  { s with
    st := zeroed
    digest := packDigest d
    hex := packHex (hexBytes d)
    consumed := BitVec.ofNat 64 k
    digestValid := true
    hexValid := true
    resNone := false
    busy := false }

/-- A recipe's end with no result (41_range_and_recipes.md R163, R174), written out; no source byte was absorbed. -/
def afterNoResult (s : State) : State :=
  { s with
    st := zeroed
    digest := Vector.replicate 4 0
    hex := Vector.replicate 8 0
    consumed := 0
    digestValid := false
    hexValid := false
    resNone := true
    busy := false }

/-- The commands that read the byte source (20_memory.md R64). -/
def readsSource : Instr → Bool
  | .init => false
  | .update => false
  | .pad _ => false
  | .finalize => false
  | .renderHex => false
  | .digestRange => true
  | .hashGeneric => true
  | .hashSnes => true
  | .hashGenesis => true
  | .hashNes => true

/-- The recipe commands (41_range_and_recipes.md R165 to R167, R173). -/
def isRecipe : Instr → Bool
  | .init => false
  | .update => false
  | .pad _ => false
  | .finalize => false
  | .renderHex => false
  | .digestRange => false
  | .hashGeneric => true
  | .hashSnes => true
  | .hashGenesis => true
  | .hashNes => true

/-- The commands that need PHASE = ABSORB (60_exceptions.md R202). -/
def needsAbsorb : Instr → Bool
  | .init => false
  | .update => true
  | .pad _ => true
  | .finalize => true
  | .renderHex => false
  | .digestRange => false
  | .hashGeneric => false
  | .hashSnes => false
  | .hashGenesis => false
  | .hashNes => false

/-- A reliable source that ends after its first `n` bytes: "as if the file were that short"
(41_range_and_recipes.md R175). -/
def withFileCutTo (n : Nat) (s : State) : State :=
  { s with src := ⟨s.src.present, BitVec.ofNat 64 n, s.src.data.take n⟩, srcReliable := true }

/-- The reserved opcodes (30_encoding.md R95). -/
def reservedOpcode (op : Nat) : Bool :=
  op == 0x00 || (0x06 ≤ op && op ≤ 0x0F) || (0x11 ≤ op && op ≤ 0x1F) || (0x24 ≤ op && op ≤ 0xFF)

/-- The reserved offsets (10_state.md R37, R44). -/
def reservedOffset (o : Nat) : Bool :=
  o == 0x1C || o == 0x38 || o == 0x3C || (0x70 ≤ o && o ≤ 0x7C && o % 4 == 0) || (0xC0 ≤ o && o ≤ 0xFC && o % 4 == 0)

/-- The invariant of the machine, one field per promise of the spec. -/
structure Invariant (s : State) : Prop where
  /-- A faulted engine has no pending command (60_exceptions.md R204, R205). -/
  faultedIdle : s.faulted = true → s.busy = false
  /-- FAULT holds a code since the first fault (60_exceptions.md R201, R207). -/
  faultedCode : s.faulted = true → s.fault.code ≠ .none
  /-- FAULT reads 0 before the first fault (10_state.md R39). -/
  unfaultedClear : s.faulted = false → s.fault = FaultInfo.clear
  /-- In FINAL the digest state is zero (10_state.md R22; 40_digest.md R137). -/
  finalZero : s.st.phase = .final → s.st = zeroState
  /-- In ABSORB the digest state has absorbed some byte sequence since its start, every full block of it compressed
  (10_state.md R25, R26). -/
  absorbed : s.st.phase = .absorb → ∃ msg, s.st = absorb initState msg
  /-- DIGEST_VALID: DIGEST holds the MD5 digest of some message (10_state.md R30; 00_scope.md R2). -/
  digestIsMd5 : s.digestValid = true → ∃ msg, s.digest = packDigest (md5 msg)
  /-- HEX_VALID: HEX holds the rendering of the present DIGEST, and there is one (10_state.md R30). -/
  hexRenders : s.hexValid = true →
    s.digestValid = true ∧ s.hex = packHex (hexBytes (unpackWords s.digest.toList))
  /-- With no digest since reset or the last "no result", DIGEST and HEX are 0 and nothing is rendered
  (41_range_and_recipes.md R163; 10_state.md R45). -/
  noDigestZero : s.digestValid = false →
    s.digest = Vector.replicate 4 0 ∧ s.hex = Vector.replicate 8 0 ∧ s.hexValid = false
  /-- RES_NONE excludes DIGEST_VALID (10_state.md R30, R47). -/
  noneNoDigest : s.resNone = true → s.digestValid = false
  /-- HEX is 0, or the rendering of some 16 bytes (10_state.md R28). -/
  hexRendered : s.hex = Vector.replicate 8 0 ∨ ∃ d : List Byte, d.length = 16 ∧ s.hex = packHex (hexBytes d)
  /-- A reliable source is as long as its size (10_state.md R36). -/
  sourceWf : s.src.wf s.srcReliable = true

end Sys2Proof.Safety
end

