-- ==== Sys2Proof/Certificates/Slice0/Obligations.lean ====
section
/-! DEFINITION. The statements for the provers, from the numbered rules of spec/. In a state whose `schedule` is empty
and whose BUSY is 1 the engine moves next: log entry 2 says how the model lets every order of R209 occur. `draws` counts
the free values taken (log entries 4 and 5); no statement rests on its value. -/

open Sys2Proof Sys2Proof.Machine Sys2Proof.Safety

/-! ## Encoding -/

/-- Decoding an encoded well-formed command gives it back, PAD with every fill byte (R91, R94, R99). -/
def Obligations.DecodeEncodeRoundTrip : Prop :=
  ∀ i : Instr, i.wellFormed = true → decode (encode i) = some i

/-- Every command is exactly one word (R98): a word that decodes is the encoding of what it decodes to. -/
def Obligations.EncodeDecodeRoundTrip : Prop :=
  ∀ (w : Word) (i : Instr), decode w = some i → encode i = w

/-- R96: a word is a command exactly when it matches a row of the opcode map, and an illegal word that executes is
the fault ILLEGAL_CMD, with the fault entry of R204. -/
def Obligations.IllegalWordFaults : Prop :=
  (∀ w : Word, (decode w).isSome = wordLegal w) ∧
    ∀ s : State, s.schedule = [] → s.busy = true → s.faulted = false → wordLegal s.cmd = false →
      step s = .next (afterCommandFault .illegalCmd s)

/-- R95: a reserved OPCODE never decodes, whatever the rest of the word, and is ILLEGAL_CMD when it executes. -/
def Obligations.ReservedOpcodeFaults : Prop :=
  ∀ s : State, s.schedule = [] → s.busy = true → s.faulted = false →
    reservedOpcode (s.cmd.extractLsb' 0 8).toNat = true → step s = .next (afterCommandFault .illegalCmd s)

/-- The ten words written out from the opcode map decode to their commands (R94), and a word with RSVD not 0 is none
(R96). -/
def Obligations.WrittenWordsDecode : Prop :=
  decode 0x00000001 = some .init ∧ decode 0x00000002 = some .update ∧ decode 0x0000EE03 = some (.pad 0xEE) ∧
    decode 0x00000004 = some .finalize ∧ decode 0x00000005 = some .renderHex ∧
    decode 0x00000010 = some .digestRange ∧ decode 0x00000020 = some .hashGeneric ∧
    decode 0x00000021 = some .hashSnes ∧ decode 0x00000022 = some .hashGenesis ∧
    decode 0x00000023 = some .hashNes ∧ decode 0x00010003 = none

/-! ## The step -/

/-- A pending word that decodes to a well-formed command is executed by the engine's turn: by default, and when the
schedule names the engine, then with the schedule advanced (R79, R202; the schedule is log entry 2). -/
def Obligations.StepRunsDecodedCommand : Prop :=
  ∀ (s : State) (i : Instr), s.busy = true → s.faulted = false → decode s.cmd = some i → i.wellFormed = true →
    (s.schedule = [] → step s = exec i s) ∧
      ∀ rest, s.schedule = .engine :: rest → step s = exec i { s with schedule := rest }

/-- R32: a host write to CMD sets BUSY to 1; the engine's next step executes the word held in CMD and sets BUSY to
0, whether the command completes or faults. -/
def Obligations.PendingCommandEndsInOneStep : Prop :=
  (∀ (s : State) (v : Word), s.busy = false → s.faulted = false →
    hostWrite 32 0x00 v s = { s with cmd := v, busy := true }) ∧
  ∀ s : State, s.schedule = [] → s.busy = true → s.faulted = false →
    ∃ t, step s = .next t ∧ t.busy = false ∧
      match decode s.cmd with
      | some i => exec i s = .next t
      | none => t = afterCommandFault .illegalCmd s

/-- R209: both orders of a pending command and a host write are admitted, by the schedule (log entry 2): the engine
first runs the command, the host first faults with BUSY_WRITE and discards it. -/
def Obligations.BothOrdersAdmitted : Prop :=
  ∀ (s : State) (i : Instr) (r : HostReg) (v : Word) (moves : List HostMove) (rest : List Agent),
    s.busy = true → s.faulted = false → decode s.cmd = some i → regWritable r = true →
    s.hostMoves = .write 32 (regOffset r) v :: moves →
    step { s with schedule := .engine :: rest } = exec i { s with schedule := rest } ∧
      step { s with schedule := .host :: rest } =
        .next (afterAccessFault .busyWrite (regOffset r) true { s with schedule := rest, hostMoves := moves })

/-- R200: a command always ends in a next state, and a step stops the model only at the host move `attach`. -/
def Obligations.OnlyAttachStops : Prop :=
  (∀ (i : Instr) (s : State), ∃ t, exec i s = .next t) ∧
    ∀ s : State, (∃ t, step s = .next t) ∨ ∃ src rest, s.hostMoves = .attach src :: rest

/-! ## The commands of the digest primitive -/

/-- R128, INIT: in every phase, from every state. -/
def Obligations.InitResult : Prop :=
  (∀ w : Word, decode w = some .init ↔ w = 0x00000001) ∧
    ∀ s : State,
      exec .init s =
        .next { s with
          st := ⟨.absorb, ⟨0x67452301, 0xEFCDAB89, 0x98BADCFE, 0x10325476⟩, 0, Vector.replicate 64 0⟩
          busy := false }

/-- R129, UPDATE: the window's first ARG0 bytes are absorbed; NOT_INIT, FINALIZED and BAD_LEN in this order. -/
def Obligations.UpdateResult : Prop :=
  (∀ w : Word, decode w = some .update ↔ w = 0x00000002) ∧
    ∀ s : State,
      (s.st.phase = .uninit → exec .update s = .next (afterCommandFault .notInit s)) ∧
      (s.st.phase = .final → exec .update s = .next (afterCommandFault .finalized s)) ∧
      (s.st.phase = .absorb → 64 < s.arg0.toNat → exec .update s = .next (afterCommandFault .badLen s)) ∧
      (s.st.phase = .absorb → s.arg0.toNat ≤ 64 →
        exec .update s =
          .next { s with st := absorb s.st ((window s).take s.arg0.toNat), busy := false })

/-- R129's corner cases: the block buffer takes the bytes, and exactly one block is compressed when BUF_CNT + LEN
reaches 64, none otherwise. -/
def Obligations.UpdateCompressesAtMostOneBlock : Prop :=
  ∀ s t : State, s.st.phase = .absorb → s.arg0.toNat ≤ 64 → exec .update s = .next t →
    let n := s.st.cnt.toNat % 64
    let bytes := s.st.buf.toList.take n ++ (window s).take s.arg0.toNat
    (bytes.length < 64 → t.st.regs = s.st.regs ∧ t.st.buf.toList.take bytes.length = bytes) ∧
    (64 ≤ bytes.length → t.st.regs = compress s.st.regs (bytes.take 64) ∧
      t.st.buf.toList.take (bytes.length - 64) = bytes.drop 64)

/-- R34: byte W[i] of the window is bits [8(i mod 4) + 7 : 8(i mod 4)] of DATA(i div 4). -/
def Obligations.WindowIsLittleEndian : Prop :=
  ∀ (s : State) (i : Nat) (h : i < 64),
    (window s)[i]? = some ((s.data[i / 4]).extractLsb' (8 * (i % 4)) 8)

/-- R130, PAD: ARG0 copies of the fill byte are absorbed, any 32-bit count. -/
def Obligations.PadResult : Prop :=
  (∀ (w : Word) (v : Byte), decode w = some (.pad v) ↔ w = 0x00000003 ||| (v.setWidth 32 <<< 8)) ∧
    ∀ (s : State) (v : Byte),
      (s.st.phase = .uninit → exec (.pad v) s = .next (afterCommandFault .notInit s)) ∧
      (s.st.phase = .final → exec (.pad v) s = .next (afterCommandFault .finalized s)) ∧
      (s.st.phase = .absorb →
        exec (.pad v) s =
          .next { s with st := absorb s.st (List.replicate s.arg0.toNat v), busy := false })

/-- R131, FINALIZE: the digest registers, the zeroed state and the flags. -/
def Obligations.FinalizeResult : Prop :=
  (∀ w : Word, decode w = some .finalize ↔ w = 0x00000004) ∧
    ∀ s : State,
      (s.st.phase = .uninit → exec .finalize s = .next (afterCommandFault .notInit s)) ∧
      (s.st.phase = .final → exec .finalize s = .next (afterCommandFault .finalized s)) ∧
      (s.st.phase = .absorb →
        exec .finalize s =
          .next { s with
            st := zeroed
            digest := packDigest (finalDigest s.st)
            digestValid := true
            hexValid := false
            resNone := false
            busy := false })

/-- R27: DIGEST0 to DIGEST3 after FINALIZE equal the final values of A, B, C and D, after the padding of R125. -/
def Obligations.DigestIsFinalRegisters : Prop :=
  ∀ s t : State, s.st.phase = .absorb → exec .finalize s = .next t →
    let r := (absorb s.st (padding s.st.cnt)).regs
    t.digest = #v[r.a, r.b, r.c, r.d]

/-- The headline: FINALIZE on a state that has absorbed a message since its initialisation, in whatever pieces,
leaves the MD5 digest of the message, computed block by block over the padded message (R2, R120, R125). -/
def Obligations.FinalizeGivesMdFive : Prop :=
  ∀ (s : State) (msg : List Byte), s.st = absorb initState msg →
    exec .finalize s =
      .next { s with
        st := zeroed
        digest := packDigest (md5 msg)
        digestValid := true
        hexValid := false
        resNone := false
        busy := false }

/-- R136, which the spec marks "derived: from rule R125": finalization compresses one block when BUF_CNT ≤ 55 and
two when BUF_CNT ≥ 56. -/
def Obligations.FinalizeBlockCount : Prop :=
  ∀ st : DigestState,
    let n := st.cnt.toNat % 64
    let bytes := st.buf.toList.take n ++ padding st.cnt
    let r := (absorb st (padding st.cnt)).regs
    (n ≤ 55 → bytes.length = 64 ∧ r = compress st.regs bytes) ∧
    (56 ≤ n → bytes.length = 128 ∧ r = compress (compress st.regs (bytes.take 64)) (bytes.drop 64))

/-- R127, which the spec marks "derived: from rule R120": the source's chunked streaming leaves the state that one
absorb leaves, for every chunk size. -/
def Obligations.ChunkedStreamingAgrees : Prop :=
  ∀ (n : Nat) (st : DigestState) (s : List Byte), 0 < n → absorbChunked n st s = absorb st s

/-- R134, which the spec marks "derived: from rules R120, R125": the byte count wraps modulo 2^64, completing a
block, with no fault: UPDATE with one byte at St.CNT = 2^64 - 1. -/
def Obligations.CounterWraps : Prop :=
  ∀ s : State, s.st.phase = .absorb → s.st.cnt = 0xFFFFFFFFFFFFFFFF → s.arg0 = 1 →
    ∃ t, exec .update s = .next t ∧ t.faulted = s.faulted ∧ t.st.cnt = 0 ∧
      t.st.regs = compress s.st.regs (s.st.buf.toList.take 63 ++ (window s).take 1)

/-- R132, RENDER_HEX: legal in every phase once there is a digest. -/
def Obligations.RenderHexResult : Prop :=
  (∀ w : Word, decode w = some .renderHex ↔ w = 0x00000005) ∧
    ∀ s : State,
      (s.digestValid = false → exec .renderHex s = .next (afterCommandFault .noDigest s)) ∧
      (s.digestValid = true →
        exec .renderHex s =
          .next { s with
            hex := packHex (hexBytes (bytesLE32 s.digest[0] ++ bytesLE32 s.digest[1] ++ bytesLE32 s.digest[2] ++
              bytesLE32 s.digest[3]))
            hexValid := true
            busy := false })

/-- R28, R126: the rendering has two characters a byte, the digit of the high nibble first, 0x30 + v for v ≤ 9 and
0x61 + v - 10 above; each is an ASCII code 0x30 to 0x39 or 0x61 to 0x66; and HEXn holds characters 4n to 4n + 3,
character 4n in bits [7:0]. -/
def Obligations.RenderingIsLowercaseHex : Prop :=
  ∀ (d : List Byte), d.length = 16 →
    let digit := fun v : Byte => if v.toNat ≤ 9 then 0x30 + v else 0x61 + v - 10
    (hexBytes d).length = 32 ∧
    (∀ (k : Nat) (b : Byte), d[k]? = some b →
      (hexBytes d)[2 * k]? = some (digit (b >>> 4)) ∧ (hexBytes d)[2 * k + 1]? = some (digit (b &&& 0x0F))) ∧
    (∀ c ∈ hexBytes d, (0x30 ≤ c.toNat ∧ c.toNat ≤ 0x39) ∨ (0x61 ≤ c.toNat ∧ c.toNat ≤ 0x66)) ∧
    ∀ (n : Fin 8) (j : Fin 4),
      (hexBytes d)[4 * n.val + j.val]? = some (((packHex (hexBytes d))[n]).extractLsb' (8 * j.val) 8)

/-! ## The range helper and the recipes -/

/-- R162, DIGEST_RANGE: St is fresh and has absorbed the range read; CONSUMED counts it. An unreliable source
delivers some k bytes, of which only R65's bound is stated. -/
def Obligations.DigestRangeResult : Prop :=
  (∀ w : Word, decode w = some .digestRange ↔ w = 0x00000010) ∧
    ∀ s : State,
      let o := s.arg0.toNat
      let m := s.arg1.toNat
      let avail := s.src.size.toNat - o
      let eff := if m = 0 then avail else min m avail
      let after (k draws : Nat) : State :=
        { s with
          st := absorb initState ((s.src.data.drop o).take k)
          consumed := BitVec.ofNat 64 k
          draws := draws
          busy := false }
      (s.src.present = false → exec .digestRange s = .next (after 0 s.draws)) ∧
      (s.src.present = true → s.srcReliable = true →
        exec .digestRange s = .next (after (min eff (s.src.data.length - o)) s.draws)) ∧
      (s.src.present = true → s.srcReliable = false →
        ∃ k draws, k ≤ min eff (s.src.data.length - o) ∧ exec .digestRange s = .next (after k draws))

/-- R165, HASH_GENERIC: no result when the source is absent or delivers no byte, else the MD5 digest of the bytes it
delivers, unpadded, and its rendering. A reliable source delivers the whole file; an unreliable one any prefix of
it. -/
def Obligations.HashGenericResult : Prop :=
  (∀ w : Word, decode w = some .hashGeneric ↔ w = 0x00000020) ∧
    ∀ s : State,
      (s.src.present = false → exec .hashGeneric s = .next (afterNoResult s)) ∧
      (s.src.present = true →
        ∃ k draws, k ≤ min s.src.size.toNat s.src.data.length ∧
          (s.srcReliable = true → k = min s.src.size.toNat s.src.data.length ∧ draws = s.draws) ∧
          exec .hashGeneric s =
            .next { (if k = 0 then afterNoResult s else
              afterResult (md5 (s.src.data.take k)) k s) with draws := draws })

/-- R166, HASH_SNES: as the generic recipe, the bytes padded with FILL_SNES up to CANON_SNES of the machine's
record; a longer file whole and uncut. The record of the reset state has the default values, 0x00 and 8 MiB
(R10). -/
def Obligations.HashSnesResult : Prop :=
  (∀ w : Word, decode w = some .hashSnes ↔ w = 0x00000021) ∧
    (State.reset.params.fillSnes = 0x00 ∧ State.reset.params.canonSnes = 0x800000) ∧
    ∀ s : State,
      (s.src.present = false → exec .hashSnes s = .next (afterNoResult s)) ∧
      (s.src.present = true →
        ∃ k draws, k ≤ min s.src.size.toNat s.src.data.length ∧
          (s.srcReliable = true → k = min s.src.size.toNat s.src.data.length ∧ draws = s.draws) ∧
          exec .hashSnes s =
            .next { (if k = 0 then afterNoResult s else
              afterResult (md5 (s.src.data.take k ++ List.replicate (s.params.canonSnes - k) s.params.fillSnes)) k s) with
              draws := draws })

/-- R167, HASH_GENESIS: as the generic recipe, the bytes padded with FILL_GENESIS up to CANON_GENESIS of the machine's
record; a longer file whole and uncut. The record of the reset state has the default values, 0x00 and 6 MiB
(R10). -/
def Obligations.HashGenesisResult : Prop :=
  (∀ w : Word, decode w = some .hashGenesis ↔ w = 0x00000022) ∧
    (State.reset.params.fillGenesis = 0x00 ∧ State.reset.params.canonGenesis = 0x600000) ∧
    ∀ s : State,
      (s.src.present = false → exec .hashGenesis s = .next (afterNoResult s)) ∧
      (s.src.present = true →
        ∃ k draws, k ≤ min s.src.size.toNat s.src.data.length ∧
          (s.srcReliable = true → k = min s.src.size.toNat s.src.data.length ∧ draws = s.draws) ∧
          exec .hashGenesis s =
            .next { (if k = 0 then afterNoResult s else
              afterResult (md5 (s.src.data.take k ++ List.replicate (s.params.canonGenesis - k) s.params.fillGenesis)) k s) with
              draws := draws })

/-- R173, HASH_NES. No result: the source is absent, the header read delivers fewer than NES_HEADER_LEN bytes, the
magic is wrong, or the window's read delivers no byte. Else the digest of the window's bytes and the shortfall of
FILL_NES. The window is NES_BANK_SIZE × n bytes from the header's end, past the trainer skip with the trainer flag;
n is the bank count h[4], rounded up unless the mapper is in NES_NOROUND; n = 0 takes the rest of the file. A
reliable source delivers all that a read can reach. The record is the machine's; that of the reset state has the
default values (R10). Which header bytes hold the bank count, the trainer flag and the mapper is general knowledge
by the spec's own words (R168, R169): log entry 13; a record whose header is too short to hold them: log entry 11. -/
def Obligations.HashNesResult : Prop :=
  (∀ w : Word, decode w = some .hashNes ↔ w = 0x00000023) ∧
    (State.reset.params.nesHeaderLen = 16 ∧ State.reset.params.nesTrainerSkip = 16 ∧
      State.reset.params.nesBankSize = 0x4000 ∧ State.reset.params.nesNoRound = [53, 198, 228] ∧
      State.reset.params.nesMagic = [0x4E, 0x45, 0x53, 0x1A] ∧ State.reset.params.fillNes = 0xFF) ∧
    ∀ s : State,
      (s.src.present = false → exec .hashNes s = .next (afterNoResult s)) ∧
      (s.src.present = true →
        ∃ j draws, j ≤ min s.params.nesHeaderLen s.src.data.length ∧
          (s.srcReliable = true → j = min s.params.nesHeaderLen s.src.data.length ∧ draws = s.draws) ∧
          let h := s.src.data.take j
          let mapper : Byte := (h.getD 6 0 >>> 4) ||| (h.getD 7 0 &&& 0xF0)
          let n := if mapper ∈ s.params.nesNoRound then (h.getD 4 0).toNat else nextPow2 (h.getD 4 0)
          let c := s.params.nesBankSize * n
          let off := s.params.nesHeaderLen + if h.getD 6 0 &&& 0x04 = 0 then 0 else s.params.nesTrainerSkip
          let eff := if c = 0 then s.src.size.toNat - off else min c (s.src.size.toNat - off)
          if j < s.params.nesHeaderLen ∨ h.take 4 ≠ s.params.nesMagic then
            exec .hashNes s = .next { afterNoResult s with draws := draws }
          else
            ∃ k, k ≤ min eff (s.src.data.length - off) ∧
              (s.srcReliable = true → k = min eff (s.src.data.length - off)) ∧
              exec .hashNes s =
                .next { (if k = 0 then afterNoResult s else
                  afterResult (md5 ((s.src.data.drop off).take k ++ List.replicate (c - k) s.params.fillNes)) k s) with
                  draws := draws })

/-- R170: nextpow2(0) = 0, and else the least power of two not below the count. -/
def Obligations.BankRoundingIsLeastPowerOfTwo : Prop :=
  nextPow2 0 = 0 ∧
    ∀ v : Byte, v ≠ 0 → ∃ j : Nat, nextPow2 v = 2 ^ j ∧ v.toNat ≤ 2 ^ j ∧ ∀ i : Nat, v.toNat ≤ 2 ^ i → 2 ^ j ≤ 2 ^ i

/-- R171: the canonical window is NES_BANK_SIZE × n, with n the raw bank count for the mappers of NES_NOROUND and the
rounded one otherwise; with the default record that is 0x4000 × n, between 0 and 0x400000, the mappers 53, 198 and
228 not rounded. -/
def Obligations.NesWindowSize : Prop :=
  (∀ (p : Params) (h : List Byte),
    (nesMapper h ∈ p.nesNoRound → nesWindow p h = p.nesBankSize * (nesBanks h).toNat) ∧
    (nesMapper h ∉ p.nesNoRound → nesWindow p h = p.nesBankSize * nextPow2 (nesBanks h))) ∧
  ∀ h : List Byte,
    nesWindow Config.params h ≤ 0x400000 ∧
    (nesMapper h = 53 ∨ nesMapper h = 198 ∨ nesMapper h = 228 →
      nesWindow Config.params h = 0x4000 * (nesBanks h).toNat) ∧
    (nesMapper h ≠ 53 → nesMapper h ≠ 198 → nesMapper h ≠ 228 →
      nesWindow Config.params h = 0x4000 * nextPow2 (nesBanks h))

/-- R175: when a read ends early, each of the five commands that read the source does what it would do on a reliable
file cut short: the same engine state after it. -/
def Obligations.EarlyEndActsAsShortFile : Prop :=
  ∀ (i : Instr) (s : State), readsSource i = true → s.src.present = true → s.srcReliable = false →
    ∃ n, n ≤ s.src.data.length ∧ ∃ t u, exec i s = .next t ∧ exec i (withFileCutTo n s) = .next u ∧ sameEngine u t

/-- R179: a recipe's outcome depends only on the source, the launch parameter, the configuration record and the
draws, not on the digest state, the arguments, the window or any earlier command. The spec marks it "derived". -/
def Obligations.RecipesIgnoreEngineState : Prop :=
  ∀ (i : Instr) (s s' : State), isRecipe i = true → s'.src = s.src → s'.srcReliable = s.srcReliable →
    s'.params = s.params → s'.draws = s.draws →
    ∃ t t', exec i s = .next t ∧ exec i s' = .next t' ∧ t'.st = t.st ∧ sameResults t t' ∧ t'.busy = t.busy ∧
      t'.draws = t.draws

/-- R177, which the spec marks "derived": padding by the recipe is padding in one absorb. On a reliable source the
digest of HASH_SNES, HASH_GENESIS or HASH_NES is the one FINALIZE gives on a state that absorbed the same bytes in
one piece, the source's bytes (for NES those of the window `nesWindow` from `nesStart`) and then the fill bytes of
the shortfall, for every configuration record. -/
def Obligations.PaddingEquivalence : Prop :=
  ∀ s t u v : State, s.src.present = true → s.srcReliable = true → s.src.wf true = true → exec .finalize u = .next v →
    let p := s.params
    let d := s.src.data
    let h := d.take p.nesHeaderLen
    let c := nesWindow p h
    let rest := d.drop (nesStart p h)
    let body := if c = 0 then rest else rest.take c
    (0 < d.length → d.length ≤ p.canonSnes →
      u.st = absorb initState (d ++ List.replicate (p.canonSnes - d.length) p.fillSnes) →
      exec .hashSnes s = .next t → t.digest = v.digest) ∧
    (0 < d.length → d.length ≤ p.canonGenesis →
      u.st = absorb initState (d ++ List.replicate (p.canonGenesis - d.length) p.fillGenesis) →
      exec .hashGenesis s = .next t → t.digest = v.digest) ∧
    (p.nesHeaderLen ≤ d.length → h.take 4 = p.nesMagic → body ≠ [] →
      u.st = absorb initState (body ++ List.replicate (c - body.length) p.fillNes) →
      exec .hashNes s = .next t → t.digest = v.digest)

/-- R178, which the spec marks "derived: from rule R179": with a reliable source a recipe issued twice changes
nothing the second time. -/
def Obligations.RecipeIsIdempotent : Prop :=
  ∀ (i : Instr) (s t : State), isRecipe i = true → s.srcReliable = true → exec i s = .next t → exec i t = .next t

/-! ## Frames -/

/-- R33, R34, R35, R46, R64: no command writes ARG0, ARG1, the data window, CMD, the byte source, SRC_RELIABLE, the
configuration record or anything of the host's; every byte position of the source reads as before, and BUSY is 0 afterwards. -/
def Obligations.CommandsKeepInputs : Prop :=
  ∀ (i : Instr) (s t : State), exec i s = .next t →
    sameInputs s t ∧ t.busy = false ∧ ∀ a : Nat, t.src.data[a]? = s.src.data[a]?

/-- The frame of INIT, UPDATE and PAD: the result registers, their flags and the draws are unchanged, and so is the
fault state unless the command faults, and then St is unchanged too. -/
def Obligations.AbsorbingCommandsFrame : Prop :=
  ∀ (i : Instr) (s t : State), i = .init ∨ i = .update ∨ (∃ v, i = .pad v) → exec i s = .next t →
    sameResults s t ∧ t.draws = s.draws ∧ (sameFault s t ∨ (t.faulted = true ∧ t.st = s.st))

/-- The frame of FINALIZE: HEX, CONSUMED and the draws are unchanged; when it faults, so are St and every result. -/
def Obligations.FinalizeFrame : Prop :=
  ∀ s t : State, exec .finalize s = .next t →
    t.hex = s.hex ∧ t.consumed = s.consumed ∧ t.draws = s.draws ∧
      (sameFault s t ∨ (t.faulted = true ∧ t.st = s.st ∧ sameResults s t))

/-- The frame of RENDER_HEX: St, DIGEST, CONSUMED, DIGEST_VALID, RES_NONE and the draws are unchanged; when it
faults, so are HEX and HEX_VALID. -/
def Obligations.RenderHexFrame : Prop :=
  ∀ s t : State, exec .renderHex s = .next t →
    t.st = s.st ∧ t.digest = s.digest ∧ t.consumed = s.consumed ∧ t.digestValid = s.digestValid ∧
      t.resNone = s.resNone ∧ t.draws = s.draws ∧ (sameFault s t ∨ (t.faulted = true ∧ sameResults s t))

/-- The frame of DIGEST_RANGE: DIGEST, HEX, the result flags and the fault state are unchanged; it writes St,
CONSUMED and, on an unreliable source, takes a draw. -/
def Obligations.DigestRangeFrame : Prop :=
  ∀ s t : State, exec .digestRange s = .next t →
    t.digest = s.digest ∧ t.hex = s.hex ∧ t.digestValid = s.digestValid ∧ t.hexValid = s.hexValid ∧
      t.resNone = s.resNone ∧ sameFault s t ∧ (s.srcReliable = true → t.draws = s.draws)

/-- The frame of the recipes: the fault state is unchanged, the digest state is zero in FINAL, and with a reliable
source no draw is taken; everything else they write is the result registers and flags. -/
def Obligations.RecipesFrame : Prop :=
  ∀ (i : Instr) (s t : State), isRecipe i = true → exec i s = .next t →
    sameFault s t ∧ t.st = zeroed ∧ (s.srcReliable = true → t.draws = s.draws)

/-! ## Flags, faults and the fault state -/

/-- R47: every write of every status flag: by reset, by an accepted write to CMD, by each command, and by any fault.
-/
def Obligations.FlagWriteTable : Prop :=
  (∀ s : State, let t := applyReset s
    t.st.phase = .uninit ∧ t.digestValid = false ∧ t.hexValid = false ∧ t.resNone = false ∧ t.busy = false ∧
      t.faulted = false) ∧
  (∀ (s : State) (v : Word), s.faulted = false → s.busy = false → let t := hostWrite 32 0x00 v s
    t.st.phase = s.st.phase ∧ t.digestValid = s.digestValid ∧ t.hexValid = s.hexValid ∧ t.resNone = s.resNone ∧
      t.busy = true ∧ t.faulted = s.faulted) ∧
  (∀ (i : Instr) (s t : State), s.faulted = false → exec i s = .next t → t.faulted = false → t.busy = false ∧
    match i with
    | .init => t.st.phase = .absorb ∧ t.digestValid = s.digestValid ∧ t.hexValid = s.hexValid ∧ t.resNone = s.resNone
    | .update => t.st.phase = .absorb ∧ s.st.phase = .absorb ∧ t.digestValid = s.digestValid ∧
        t.hexValid = s.hexValid ∧ t.resNone = s.resNone
    | .pad _ => t.st.phase = .absorb ∧ s.st.phase = .absorb ∧ t.digestValid = s.digestValid ∧
        t.hexValid = s.hexValid ∧ t.resNone = s.resNone
    | .finalize => t.st.phase = .final ∧ t.digestValid = true ∧ t.hexValid = false ∧ t.resNone = false
    | .renderHex => t.st.phase = s.st.phase ∧ t.digestValid = true ∧ s.digestValid = true ∧ t.hexValid = true ∧
        t.resNone = s.resNone
    | .digestRange => t.st.phase = .absorb ∧ t.digestValid = s.digestValid ∧ t.hexValid = s.hexValid ∧
        t.resNone = s.resNone
    | .hashGeneric => t.st.phase = .final ∧ t.digestValid = t.hexValid ∧ t.resNone = !t.digestValid
    | .hashSnes => t.st.phase = .final ∧ t.digestValid = t.hexValid ∧ t.resNone = !t.digestValid
    | .hashGenesis => t.st.phase = .final ∧ t.digestValid = t.hexValid ∧ t.resNone = !t.digestValid
    | .hashNes => t.st.phase = .final ∧ t.digestValid = t.hexValid ∧ t.resNone = !t.digestValid) ∧
  (∀ s t : State, s.faulted = false → step s = .next t → t.faulted = true →
    t.st.phase = s.st.phase ∧ t.digestValid = s.digestValid ∧ t.hexValid = s.hexValid ∧ t.resNone = s.resNone ∧
      t.busy = false)

/-- R202: the checks of the pending command in their order, the first that applies raised; with none, the command
runs to its end without a fault. -/
def Obligations.CommandCheckOrder : Prop :=
  ∀ s : State, s.schedule = [] → s.busy = true → s.faulted = false →
    match decode s.cmd with
    | none => step s = .next (afterCommandFault .illegalCmd s)
    | some i =>
      if needsAbsorb i = true ∧ s.st.phase = .uninit then step s = .next (afterCommandFault .notInit s)
      else if needsAbsorb i = true ∧ s.st.phase = .final then step s = .next (afterCommandFault .finalized s)
      else if i = .update ∧ 64 < s.arg0.toNat then step s = .next (afterCommandFault .badLen s)
      else if i = .renderHex ∧ s.digestValid = false then step s = .next (afterCommandFault .noDigest s)
      else ∃ t, step s = .next t ∧ exec i s = .next t ∧ t.faulted = false

/-- R204: whatever step takes a fault, nothing of the engine changes but FAULT, FAULTED and BUSY; a command fault
records CMD's low byte, an access fault the offset and direction of the access. -/
def Obligations.FaultsArePrecise : Prop :=
  ∀ s t : State, s.faulted = false → step s = .next t → t.faulted = true →
    sameEngine { s with fault := t.fault, faulted := true, busy := false } t ∧ t.fault.code ≠ .none ∧
      (t.fault = ⟨t.fault.code, s.cmd.extractLsb' 0 8, 0, false⟩ ∨
        ∃ width offset rest, (s.hostMoves = .read width offset :: rest ∧
            t.fault = ⟨.busAccess, 0, offset, false⟩) ∨
          ∃ v, s.hostMoves = .write width offset v :: rest ∧
            (t.fault = ⟨.busAccess, 0, offset, true⟩ ∨ t.fault = ⟨.busyWrite, 0, offset, true⟩))

/-- R206, and with it R205 and R207: no step changes a faulted engine but reset, which gives every value the spec
states for reset. -/
def Obligations.OnlyResetLeavesFault : Prop :=
  ∀ s t : State, s.faulted = true → step s = .next t →
    sameEngine s t ∨ (hasResetValues t ∧ ∃ rest, s.hostMoves = .reset :: rest)

/-! ## Host accesses -/

/-- R37: the register map: the offset of each register, the registers that are read-write, that every register stands
at its offset and at no other, and that the offsets that hold no register are the reserved ones and those that are
no multiple of 4. -/
def Obligations.RegisterMapIsExact : Prop :=
  (regAt 0x00 = some .cmd ∧ regAt 0x04 = some .status ∧ regAt 0x08 = some .fault ∧ regAt 0x0C = some .arg0 ∧
    regAt 0x10 = some .arg1 ∧ regAt 0x14 = some .consumedLo ∧ regAt 0x18 = some .consumedHi ∧
    regAt 0x20 = some .stA ∧ regAt 0x24 = some .stB ∧ regAt 0x28 = some .stC ∧ regAt 0x2C = some .stD ∧
    regAt 0x30 = some .cntLo ∧ regAt 0x34 = some .cntHi ∧
    (∀ n : Fin 4, (regOffset (.digest n)).toNat = 0x40 + 4 * n.val) ∧
    (∀ n : Fin 8, (regOffset (.hex n)).toNat = 0x50 + 4 * n.val) ∧
    ∀ n : Fin 16, (regOffset (.data n)).toNat = 0x80 + 4 * n.val) ∧
  (∀ r : HostReg, regWritable r = true ↔ r = .cmd ∨ r = .arg0 ∨ r = .arg1 ∨ ∃ n, r = .data n) ∧
  (∀ r : HostReg, regAt (regOffset r) = some r) ∧
  (∀ (o : Byte) (r : HostReg), regAt o = some r → o = regOffset r) ∧
  ∀ o : Byte, (regAt o).isNone = (o.toNat % 4 != 0 || reservedOffset o.toNat)

/-- R44: any access to a reserved offset, read or write, of any width, is BUS_ACCESS; the read returns 0. -/
def Obligations.ReservedOffsetFaults : Prop :=
  ∀ (s : State) (width : Nat) (o : Byte) (v : Word), s.faulted = false → reservedOffset o.toNat = true →
    hostWrite width o v s = afterAccessFault .busAccess o true s ∧
      hostRead width o s =
        { afterAccessFault .busAccess o false s with recorded := ⟨width, o, 0⟩ :: s.recorded }

/-- R62: an access that is not 32 bits wide or not at a multiple of 4 is BUS_ACCESS and reads and writes nothing. -/
def Obligations.MalformedAccessFaults : Prop :=
  ∀ (s : State) (width : Nat) (o : Byte) (v : Word), s.faulted = false → width ≠ 32 ∨ o.toNat % 4 ≠ 0 →
    hostWrite width o v s = afterAccessFault .busAccess o true s ∧
      hostRead width o s =
        { afterAccessFault .busAccess o false s with recorded := ⟨width, o, 0⟩ :: s.recorded }

/-- A write to a read-only register is BUS_ACCESS and changes nothing else, also while BUSY = 1 (R63, R203). -/
def Obligations.ReadOnlyWriteFaults : Prop :=
  ∀ (s : State) (o : Byte) (v : Word), s.faulted = false →
    (∃ r ∈ [HostReg.status, .fault, .consumedLo, .consumedHi, .stA, .stB, .stC, .stD, .cntLo, .cntHi, .digest 0,
        .digest 1, .digest 2, .digest 3, .hex 0, .hex 1, .hex 2, .hex 3, .hex 4, .hex 5, .hex 6, .hex 7],
      o = regOffset r) →
    hostWrite 32 o v s = afterAccessFault .busAccess o true s

/-- R243: a write to CMD, ARG0, ARG1 or a DATA register while BUSY = 1 is BUSY_WRITE and discards the pending
command. -/
def Obligations.BusyWriteFaults : Prop :=
  ∀ (s : State) (r : HostReg) (v : Word), s.faulted = false → s.busy = true →
    r = .cmd ∨ r = .arg0 ∨ r = .arg1 ∨ (∃ n, r = .data n) →
    hostWrite 32 (regOffset r) v s = afterAccessFault .busyWrite (regOffset r) true s

/-- R63: an accepted write to ARG0, ARG1 or DATAn changes that register alone; it reads back, and every other
register whose read is no draw reads as before. -/
def Obligations.AcceptedWriteReadsBack : Prop :=
  ∀ (s : State) (v : Word), s.faulted = false → s.busy = false →
    hostWrite 32 0x0C v s = { s with arg0 := v } ∧
    hostWrite 32 0x10 v s = { s with arg1 := v } ∧
    (∀ n : Fin 16, hostWrite 32 (BitVec.ofNat 8 (0x80 + 4 * n.val)) v s = { s with data := s.data.set n v }) ∧
    ∀ r : HostReg, r = .arg0 ∨ r = .arg1 ∨ (∃ n, r = .data n) →
      readValue r (hostWrite 32 (regOffset r) v s) = v ∧
        ∀ q : HostReg, q ≠ r → readIsDraw q s = false →
          readValue q (hostWrite 32 (regOffset r) v s) = readValue q s

/-- R63: a read of any register has no side effect on the engine, and the host records the value; the model's draw
counter (log entry 4) moves only where the value is a draw. R101: a turn of `wait` is one read of STATUS, and the
loop goes on exactly while BUSY is 1 (log entry 19). -/
def Obligations.ReadsHaveNoSideEffect : Prop :=
  (∀ (s : State) (r : HostReg),
    ∃ draws, hostRead 32 (regOffset r) s =
      { s with recorded := ⟨32, regOffset r, readValue r s⟩ :: s.recorded, draws := draws } ∧
      (readIsDraw r s = false → draws = s.draws ∧ readValue r s = regValue r s)) ∧
  ∀ (s : State) (rest : List HostMove), s.hostMoves = .wait :: rest →
    hostTurn s =
      .next { hostRead 32 0x04 { s with hostMoves := rest } with
        hostMoves := if s.busy then .wait :: rest else rest }

/-- R203 while FAULTED = 1: a write is dropped, and a read raises nothing, of a mapped register returning its value.
-/
def Obligations.FaultedAccesses : Prop :=
  ∀ (s : State) (width : Nat) (o : Byte) (v : Word), s.faulted = true →
    hostWrite width o v s = s ∧ sameEngine s (hostRead width o s) ∧
      ∀ r, width = 32 → o = regOffset r → ∃ rest, (hostRead width o s).recorded = ⟨32, o, readValue r s⟩ :: rest

/-- R38: STATUS between commands, field by field, the reserved bits 0; while BUSY = 1 a read returns BUSY = 1 and
the current FAULTED, whatever the draw; a write is BUS_ACCESS. -/
def Obligations.StatusLayout : Prop :=
  (∀ s : State, s.busy = false → let w := readValue .status s
    w.getLsbD 0 = false ∧
    w.extractLsb' 1 2 = (match s.st.phase with | .uninit => 0 | .absorb => 1 | .final => 2) ∧
    w.getLsbD 3 = s.digestValid ∧ w.getLsbD 4 = s.hexValid ∧ w.getLsbD 5 = s.resNone ∧ w.getLsbD 6 = s.faulted ∧
    w.getLsbD 7 = false ∧
    (w.extractLsb' 8 6).toNat = (if s.st.phase = .absorb then s.st.cnt.toNat % 64 else 0) ∧
    w.extractLsb' 14 18 = 0) ∧
  (∀ s : State, s.busy = true →
    (readValue .status s).getLsbD 0 = true ∧ (readValue .status s).getLsbD 6 = s.faulted) ∧
  ∀ (s : State) (v : Word), s.faulted = false → hostWrite 32 0x04 v s = afterAccessFault .busAccess 0x04 true s

/-- R39: FAULT, field by field, the reserved bits 0, in every state. -/
def Obligations.FaultLayout : Prop :=
  ∀ s : State, let w := readValue .fault s
    (w.extractLsb' 0 4).toNat = (match s.fault.code with
      | .none => 0 | .illegalCmd => 1 | .notInit => 2 | .finalized => 3 | .badLen => 4 | .noDigest => 5
      | .busyWrite => 6 | .busAccess => 7) ∧
    w.extractLsb' 4 4 = 0 ∧ w.extractLsb' 8 8 = s.fault.cmdOpc ∧ w.extractLsb' 16 8 = s.fault.offset ∧
    w.getLsbD 24 = s.fault.write ∧ w.extractLsb' 25 7 = 0

/-- What a read returns. Between commands the registers R27, R28, R29, R33, R34, R35 name hold their values; the
digest-state readbacks of R40 and R41 read St once it is initialised, and in UNINIT each read takes the next free
value. While BUSY = 1 (R244) a read of any register but STATUS and FAULT takes the next free value, and FAULT reads
as it stands. The free value is log entry 4, the model's form of the spec's draw. -/
def Obligations.RegisterReadback : Prop :=
  (∀ s : State, s.busy = false →
    ((readValue .consumedHi s).toNat * 2 ^ 32 + (readValue .consumedLo s).toNat = s.consumed.toNat ∧
      readValue .cmd s = s.cmd ∧ readValue .arg0 s = s.arg0 ∧ readValue .arg1 s = s.arg1 ∧
      (∀ n, readValue (.digest n) s = s.digest[n]) ∧ (∀ n, readValue (.hex n) s = s.hex[n]) ∧
      ∀ n, readValue (.data n) s = s.data[n]) ∧
    (s.st.phase ≠ .uninit →
      readValue .stA s = s.st.regs.a ∧ readValue .stB s = s.st.regs.b ∧ readValue .stC s = s.st.regs.c ∧
        readValue .stD s = s.st.regs.d ∧
        (readValue .cntHi s).toNat * 2 ^ 32 + (readValue .cntLo s).toNat = s.st.cnt.toNat) ∧
    (s.st.phase = .uninit → ∀ r ∈ [HostReg.stA, .stB, .stC, .stD, .cntLo, .cntHi],
      readValue r s = Config.freeBits s.draws 32 ∧ (readAfter r s).draws = s.draws + 1)) ∧
  ∀ s : State, s.busy = true →
    (∀ r : HostReg, r ≠ .status → r ≠ .fault →
      readValue r s = Config.freeBits s.draws 32 ∧ (readAfter r s).draws = s.draws + 1) ∧
    readValue .fault s = faultWord s.fault ∧ readAfter .fault s = s

/-! ## Reset, attaching, instances -/

/-- R45, R240: reset asserted at any time gives every piece of engine state the reset value the spec states (St.A to
St.D, St.CNT and St.BUF, which it leaves unspecified, are not stated) and leaves the byte source, the launch
parameter and the configuration record alone. -/
def Obligations.ResetValues : Prop :=
  ∀ (s : State) (rest : List HostMove) (turns : List Agent), s.hostMoves = .reset :: rest →
    s.schedule = .host :: turns →
    ∃ t, step s = .next t ∧ hasResetValues t ∧ t.src = s.src ∧ t.srcReliable = s.srcReliable ∧ t.params = s.params

/-- R248, S10: a source is attached only while BUSY = 0; while BUSY = 1 the move has no transition (log entry 9). No
other step changes the source (R64, R81), and none the launch parameter or the configuration record (R46). -/
def Obligations.SourceChangesOnlyByAttach : Prop :=
  (∀ (s : State) (src : ByteSource), s.busy = true → hostAttach src s = .refused .sourceChangedWhileBusy) ∧
  (∀ (s : State) (src : ByteSource), s.busy = false → src.wf s.srcReliable = true →
    hostAttach src s = .next { s with src := src }) ∧
  ∀ s t : State, step s = .next t → t.srcReliable = s.srcReliable ∧ t.params = s.params ∧
    (t.src = s.src ∨ (s.busy = false ∧ ∃ rest, s.hostMoves = .attach t.src :: rest))

/-- R213: engines share nothing: a step of one leaves every other as it was. -/
def Obligations.EnginesAreIndependent : Prop :=
  ∀ (engines after : List State) (n : Nat), stepEngine engines n = .next after →
    after.length = engines.length ∧ (∀ m, m ≠ n → after[m]? = engines[m]?) ∧
      ∀ s t, engines[n]? = some s → after[n]? = some t → step s = .next t

/-! ## The invariant -/

/-- The reset state has the invariant. -/
def Obligations.ResetHasTheInvariant : Prop := Invariant State.reset

/-- Every step keeps the invariant, from every state that has it: the digest state is always the absorption of some
message, DIGEST always the MD5 digest of one when it is valid, HEX the rendering of DIGEST, a faulted engine idle.
-/
def Obligations.StepKeepsTheInvariant : Prop :=
  ∀ s t : State, Invariant s → step s = .next t → Invariant t

/-- R45, which the spec marks "derived": what reset leaves unspecified is never read by a command: two states that
differ only there, in UNINIT, take the same step but for it. -/
def Obligations.UnspecifiedStateIsNeverRead : Prop :=
  ∀ (s t : State) (regs : Regs) (cnt : DWord) (buf : Vector Byte 64), s.st.phase = .uninit → step s = .next t →
    ∃ u, step { s with st := ⟨.uninit, regs, cnt, buf⟩ } = .next u ∧
      (u = t ∨ (t.st = s.st ∧ u = { t with st := ⟨.uninit, regs, cnt, buf⟩ }))
end

