-- ==== Sys2Proof/Laws/Digest.lean ====
section
/-! SUPPORT. The digest primitive's laws: absorbing in pieces, what Absorb leaves alone, the counter, lengths, and
the packing of byte arrays into registers. -/

namespace Sys2Proof.Machine

@[simp] theorem absorb_nil (st : DigestState) : absorb st [] = st := rfl

@[simp] theorem absorb_cons (st : DigestState) (b : Byte) (s : List Byte) :
    absorb st (b :: s) = absorb (absorbByte st b) s := rfl

/-- Chunk invariance (40_digest.md R127): absorbing two sequences is absorbing their concatenation. -/
theorem absorb_append (st : DigestState) (s t : List Byte) : absorb st (s ++ t) = absorb (absorb st s) t :=
  List.foldl_append

@[simp] theorem absorbByte_phase (st : DigestState) (b : Byte) : (absorbByte st b).phase = st.phase := by
  simp only [absorbByte]; split <;> rfl

@[simp] theorem absorbByte_cnt (st : DigestState) (b : Byte) : (absorbByte st b).cnt = st.cnt + 1 := by
  simp only [absorbByte]; split <;> rfl

@[simp] theorem absorbByte_buf (st : DigestState) (b : Byte) :
    (absorbByte st b).buf = st.buf.set (st.cnt.toNat % 64) b (Nat.mod_lt _ (by decide)) := by
  simp only [absorbByte]; split <;> rfl

/-- Absorb reads and writes no flag (40_digest.md R120). -/
@[simp] theorem absorb_phase (st : DigestState) (s : List Byte) : (absorb st s).phase = st.phase := by
  induction s generalizing st with
  | nil => rfl
  | cons b s ih => simp [ih]

/-- The counter counts the bytes absorbed, modulo 2^64 (10_state.md R24). -/
@[simp] theorem absorb_cnt (st : DigestState) (s : List Byte) :
    (absorb st s).cnt = st.cnt + BitVec.ofNat 64 s.length := by
  induction s generalizing st with
  | nil => simp
  | cons b s ih =>
    rw [absorb_cons, ih, absorbByte_cnt]
    simp only [List.length_cons, BitVec.ofNat_add]
    ac_rfl

@[simp] theorem bytesLE32_length (w : Word) : (bytesLE32 w).length = 4 := rfl

@[simp] theorem bytesLE64_length (v : DWord) : (bytesLE64 v).length = 8 := rfl

@[simp] theorem fillBytes_length (v : Byte) (n : Nat) : (fillBytes v n).length = n := List.length_replicate

@[simp] theorem regsBytes_length (r : Regs) : (regsBytes r).length = 16 := rfl

@[simp] theorem finalDigest_length (st : DigestState) : (finalDigest st).length = 16 := rfl

/-- Packing the four bytes of a word gives the word back (20_memory.md R70). -/
theorem le32_bytesLE32 (w : Word) (rest : List Byte) : le32 (bytesLE32 w ++ rest) 0 = w := by
  simp only [le32, bytesLE32, byteAt, List.cons_append, List.nil_append, List.getD_cons_zero, List.getD_cons_succ,
    Nat.zero_add]
  ext i hi
  simp only [BitVec.getElem_or, BitVec.getElem_shiftLeft, BitVec.getElem_setWidth, BitVec.getLsbD_extractLsb']
  rcases Nat.lt_or_ge i 8 with h | h
  · simp [h, show i < 16 by omega, show i < 24 by omega, BitVec.getLsbD_eq_getElem hi]
  rcases Nat.lt_or_ge i 16 with h' | h'
  · simp [Nat.not_lt.2 h, h', show i < 24 by omega, show i - 8 < 8 by omega, show 8 + (i - 8) = i by omega,
      BitVec.getLsbD_eq_getElem hi]
  rcases Nat.lt_or_ge i 24 with h'' | h''
  · simp [Nat.not_lt.2 h, Nat.not_lt.2 h', h'', show ¬ i - 8 < 8 by omega, show i - 16 < 8 by omega,
      show 16 + (i - 16) = i by omega, BitVec.getLsbD_eq_getElem hi]
  · simp [Nat.not_lt.2 h, Nat.not_lt.2 h', Nat.not_lt.2 h'', show ¬ i - 8 < 8 by omega, show ¬ i - 16 < 8 by omega,
      show i - 24 < 8 by omega, show 24 + (i - 24) = i by omega, BitVec.getLsbD_eq_getElem hi]

/-- DIGEST0 to DIGEST3 equal the final round registers (10_state.md R27). -/
theorem packDigest_regsBytes (r : Regs) : packDigest (regsBytes r) = #v[r.a, r.b, r.c, r.d] := by
  have split : packDigest (regsBytes r) =
      #v[le32 (bytesLE32 r.a ++ (bytesLE32 r.b ++ bytesLE32 r.c ++ bytesLE32 r.d)) 0,
        le32 (bytesLE32 r.b ++ (bytesLE32 r.c ++ bytesLE32 r.d)) 0,
        le32 (bytesLE32 r.c ++ bytesLE32 r.d) 0, le32 (bytesLE32 r.d ++ []) 0] := rfl
  rw [split, le32_bytesLE32, le32_bytesLE32, le32_bytesLE32, le32_bytesLE32]

/-- Unpacking the packed digest gives its bytes back. -/
theorem unpack_packDigest (r : Regs) : unpackWords (packDigest (regsBytes r)).toList = regsBytes r := by
  rw [packDigest_regsBytes]
  rfl

/-- A multiple-of-64 bookkeeping fact: the counter's low six bits follow the number of bytes absorbed. -/
theorem absorb_bufCnt (st : DigestState) (s : List Byte) :
    bufCnt (absorb st s) = (bufCnt st + s.length) % 64 := by
  simp only [bufCnt, absorb_cnt, BitVec.toNat_add, BitVec.toNat_ofNat]
  omega

/-- Absorbing fewer bytes than complete a block only fills the buffer (10_state.md R25). -/
theorem absorb_short (st : DigestState) (s : List Byte) (h : st.cnt.toNat % 64 + s.length < 64) :
    (absorb st s).regs = st.regs ∧
      (absorb st s).buf.toList.take (st.cnt.toNat % 64 + s.length) = st.buf.toList.take (st.cnt.toNat % 64) ++ s := by
  induction s generalizing st with
  | nil => simp
  | cons b s ih =>
    simp only [List.length_cons] at h
    have hc : (absorbByte st b).cnt.toNat % 64 = st.cnt.toNat % 64 + 1 := by
      rw [absorbByte_cnt, BitVec.toNat_add]; simp; omega
    have hr : (absorbByte st b).regs = st.regs := by
      have : ¬ (st.cnt + 1).toNat % 64 = 0 := by rw [← absorbByte_cnt st b]; omega
      simp only [absorbByte, this, if_false]
    obtain ⟨h1, h2⟩ := ih (absorbByte st b) (by omega)
    rw [hc] at h2
    refine ⟨by rw [absorb_cons, h1, hr], ?_⟩
    rw [absorb_cons, List.length_cons,
      show st.cnt.toNat % 64 + (s.length + 1) = st.cnt.toNat % 64 + 1 + s.length by omega, h2]
    rw [absorbByte_buf]
    have hl : st.cnt.toNat % 64 < st.buf.toList.length := by simp; omega
    rw [Vector.toList_set, List.take_set, List.take_succ_eq_append_getElem hl]
    rw [List.set_append_right _ _ (by simp)]
    have hl2 : (st.buf.toList.take (st.cnt.toNat % 64)).length = st.cnt.toNat % 64 := by
      rw [List.length_take]; omega
    simp [hl2]

/-- Absorbing exactly the bytes that complete a block compresses it once (40_digest.md R120). -/
theorem absorb_block (st : DigestState) (s : List Byte) (h : st.cnt.toNat % 64 + s.length = 64) :
    (absorb st s).regs = compress st.regs (st.buf.toList.take (st.cnt.toNat % 64) ++ s) := by
  have hne : s ≠ [] := by rintro rfl; simp at h; omega
  obtain ⟨l, b, rfl⟩ : ∃ l b, s = l ++ [b] := ⟨_, _, (List.dropLast_append_getLast hne).symm⟩
  simp only [List.length_append, List.length_singleton] at h
  obtain ⟨h1, h2⟩ := absorb_short st l (by omega)
  rw [absorb_append]
  have hn : st.cnt.toNat % 64 + l.length = 63 := by omega
  rw [hn] at h2
  have hc : (absorb st l).cnt.toNat % 64 = 63 := by
    have := absorb_bufCnt st l; simp only [bufCnt] at this; omega
  have hc' : ((absorb st l).cnt + 1).toNat % 64 = 0 := by rw [BitVec.toNat_add]; simp; omega
  show (absorbByte (absorb st l) b).regs = _
  simp only [absorbByte, hc', if_true, h1]
  congr 1
  rw [Vector.toList_set]
  simp only [hc]
  rw [← List.append_assoc, ← h2]
  have hl : (absorb st l).buf.toList.length = 64 := by simp
  generalize (absorb st l).buf.toList = q at hl
  apply List.ext_getElem
  · simp [hl]
  · intro i hi1 hi2
    simp only [List.length_set] at hi1
    rw [List.getElem_set]
    split
    · subst_vars; simp [hl]
    · rw [List.getElem_append_left (by simp [hl]; omega)]; simp

/-- Any bound large enough gives the same pieces. -/
theorem piecesUpTo_fuel {α : Type} (n : Nat) (hn : 0 < n) (f1 f2 : Nat) (s : List α) (h1 : s.length ≤ f1)
    (h2 : s.length ≤ f2) :
    piecesUpTo n f1 s = piecesUpTo n f2 s := by
  induction f1 generalizing f2 s with
  | zero => have : s = [] := by simpa using h1
            subst this; cases f2 <;> rfl
  | succ f1 ih =>
    cases s with
    | nil => cases f2 <;> rfl
    | cons x xs =>
      cases f2 with
      | zero => simp at h2
      | succ f2 =>
        simp only [piecesUpTo]
        rw [ih f2]
        all_goals (simp only [List.length_drop, List.length_cons] at *; omega)

/-- The pieces of a sequence that is not empty. -/
theorem pieces_step {α : Type} (n : Nat) (hn : 0 < n) (s : List α) (h : s ≠ []) :
    pieces n s = s.take n :: pieces n (s.drop n) := by
  cases s with
  | nil => exact absurd rfl h
  | cons x xs =>
    show _ :: _ = _
    congr 1
    apply piecesUpTo_fuel n hn
    · simp only [List.length_drop, List.length_cons]; omega
    · simp

end Sys2Proof.Machine
end

