-- ==== Sys2Proof/Laws/Encoding.lean ====
section
/-! SUPPORT. The command word's fields and the register map's offsets, each said once: a word is what its three fields
say (30_encoding.md R91), and an aligned access reaches the register of its offset (10_state.md R37). -/

namespace Sys2Proof

/-- A word with RSVD 0 is fixed by its FILL and OPCODE fields, and the joined word has them (R91). -/
theorem join_word (f o : Byte) (w : Word) :
    (rsvdOf w = 0 ∧ fillOf w = f ∧ opcodeOf w = o) ↔ w = f.setWidth 32 <<< 8 ||| o.setWidth 32 := by
  unfold rsvdOf fillOf opcodeOf
  constructor
  · rintro ⟨h1, h2, h3⟩
    subst h2 h3
    ext i hi
    have := congrArg (fun x : BitVec 16 => x.getLsbD (i - 16)) h1
    simp only [BitVec.getLsbD_extractLsb'] at this
    simp only [BitVec.getElem_or, BitVec.getElem_shiftLeft, BitVec.getElem_setWidth, BitVec.getLsbD_extractLsb']
    rcases Nat.lt_or_ge i 8 with h | h
    · simp [h, BitVec.getLsbD_eq_getElem hi]
    rcases Nat.lt_or_ge i 16 with h' | h'
    · simp [Nat.not_lt.2 h, show i - 8 < 8 by omega, show 8 + (i - 8) = i by omega, BitVec.getLsbD_eq_getElem hi]
    · simp [show i - 16 < 16 by omega, show 16 + (i - 16) = i by omega] at this
      simp [Nat.not_lt.2 h, show ¬ i - 8 < 8 by omega, ← BitVec.getLsbD_eq_getElem hi, this]
  · rintro rfl
    refine ⟨?_, ?_, ?_⟩
    · ext i hi
      have h1 : BitVec.getLsbD f (16 + i - 8) = false := BitVec.getLsbD_of_ge _ _ (by omega)
      have h2 : BitVec.getLsbD o (16 + i) = false := BitVec.getLsbD_of_ge _ _ (by omega)
      simp [h1, h2, show 16 + i < 32 by omega]
    · ext i hi
      simp [show ¬ 8 + i < 8 by omega, show 8 + i - 8 = i by omega, show 8 + i < 32 by omega,
        BitVec.getLsbD_eq_getElem hi]
    · ext i hi
      simp [hi, show i < 32 by omega]

/-- The fields of an encoded command. -/
theorem encode_fields (i : Instr) :
    rsvdOf (encode i) = 0 ∧ fillOf (encode i) = i.fillField ∧ opcodeOf (encode i) = i.opcode :=
  (join_word _ _ _).2 rfl

/-- The opcode lookup answers only with the command of that opcode (R94). -/
theorem lookupOpcode_some {op : Byte} {i : Instr} (h : lookupOpcode op = some i) :
    i.opcode = op ∧ i.fillField = 0 := by
  revert h
  unfold lookupOpcode
  split <;> intro h <;> simp at h <;> subst h <;> simp [Instr.opcode, Instr.fillField] <;>
    (apply BitVec.eq_of_toNat_eq; simp [*])

end Sys2Proof

namespace Sys2Proof.Machine

theorem mem_allRegs (r : HostReg) : r ∈ allRegs := by cases r <;> simp [allRegs]

/-- A 32-bit access at a register's offset reaches that register (R37, 20_memory.md R62). -/
@[simp] theorem accessTarget_regOffset (r : HostReg) : accessTarget 32 (regOffset r) = some r := by
  have key : ∀ r ∈ allRegs, accessTarget 32 (regOffset r) = some r := by decide +kernel
  exact key r (mem_allRegs r)

end Sys2Proof.Machine
end

