-- ==== Sys2Proof/Laws/State.lean ====
section
/-! SUPPORT. One lemma per field of State for each named update, true by rfl, so that no proof unfolds a record
update. -/

namespace Sys2Proof.Machine

section takeFault

variable (code : FaultCode) (o off : Byte) (w : Bool) (s : State)

@[simp] theorem takeFault_st : (takeFault code o off w s).st = s.st := rfl
@[simp] theorem takeFault_digest : (takeFault code o off w s).digest = s.digest := rfl
@[simp] theorem takeFault_hex : (takeFault code o off w s).hex = s.hex := rfl
@[simp] theorem takeFault_consumed : (takeFault code o off w s).consumed = s.consumed := rfl
@[simp] theorem takeFault_digestValid : (takeFault code o off w s).digestValid = s.digestValid := rfl
@[simp] theorem takeFault_hexValid : (takeFault code o off w s).hexValid = s.hexValid := rfl
@[simp] theorem takeFault_resNone : (takeFault code o off w s).resNone = s.resNone := rfl
@[simp] theorem takeFault_busy : (takeFault code o off w s).busy = false := rfl
@[simp] theorem takeFault_faulted : (takeFault code o off w s).faulted = true := rfl
@[simp] theorem takeFault_fault : (takeFault code o off w s).fault = ⟨code, o, off, w⟩ := rfl
@[simp] theorem takeFault_cmd : (takeFault code o off w s).cmd = s.cmd := rfl
@[simp] theorem takeFault_arg0 : (takeFault code o off w s).arg0 = s.arg0 := rfl
@[simp] theorem takeFault_arg1 : (takeFault code o off w s).arg1 = s.arg1 := rfl
@[simp] theorem takeFault_data : (takeFault code o off w s).data = s.data := rfl
@[simp] theorem takeFault_src : (takeFault code o off w s).src = s.src := rfl
@[simp] theorem takeFault_srcReliable : (takeFault code o off w s).srcReliable = s.srcReliable := rfl
@[simp] theorem takeFault_params : (takeFault code o off w s).params = s.params := rfl
@[simp] theorem takeFault_hostMoves : (takeFault code o off w s).hostMoves = s.hostMoves := rfl
@[simp] theorem takeFault_schedule : (takeFault code o off w s).schedule = s.schedule := rfl
@[simp] theorem takeFault_recorded : (takeFault code o off w s).recorded = s.recorded := rfl
@[simp] theorem takeFault_draws : (takeFault code o off w s).draws = s.draws := rfl

end takeFault

section raiseCommand

variable (code : FaultCode) (s : State)

@[simp] theorem raiseCommand_st : (raiseCommand code s).st = s.st := rfl
@[simp] theorem raiseCommand_digest : (raiseCommand code s).digest = s.digest := rfl
@[simp] theorem raiseCommand_hex : (raiseCommand code s).hex = s.hex := rfl
@[simp] theorem raiseCommand_consumed : (raiseCommand code s).consumed = s.consumed := rfl
@[simp] theorem raiseCommand_digestValid : (raiseCommand code s).digestValid = s.digestValid := rfl
@[simp] theorem raiseCommand_hexValid : (raiseCommand code s).hexValid = s.hexValid := rfl
@[simp] theorem raiseCommand_resNone : (raiseCommand code s).resNone = s.resNone := rfl
@[simp] theorem raiseCommand_busy : (raiseCommand code s).busy = false := rfl
@[simp] theorem raiseCommand_faulted : (raiseCommand code s).faulted = true := rfl
@[simp] theorem raiseCommand_fault : (raiseCommand code s).fault = ⟨code, s.cmd.extractLsb' 0 8, 0, false⟩ := rfl
@[simp] theorem raiseCommand_cmd : (raiseCommand code s).cmd = s.cmd := rfl
@[simp] theorem raiseCommand_arg0 : (raiseCommand code s).arg0 = s.arg0 := rfl
@[simp] theorem raiseCommand_arg1 : (raiseCommand code s).arg1 = s.arg1 := rfl
@[simp] theorem raiseCommand_data : (raiseCommand code s).data = s.data := rfl
@[simp] theorem raiseCommand_src : (raiseCommand code s).src = s.src := rfl
@[simp] theorem raiseCommand_srcReliable : (raiseCommand code s).srcReliable = s.srcReliable := rfl
@[simp] theorem raiseCommand_params : (raiseCommand code s).params = s.params := rfl
@[simp] theorem raiseCommand_hostMoves : (raiseCommand code s).hostMoves = s.hostMoves := rfl
@[simp] theorem raiseCommand_schedule : (raiseCommand code s).schedule = s.schedule := rfl
@[simp] theorem raiseCommand_recorded : (raiseCommand code s).recorded = s.recorded := rfl
@[simp] theorem raiseCommand_draws : (raiseCommand code s).draws = s.draws := rfl

end raiseCommand

section raiseAccess

variable (code : FaultCode) (off : Byte) (w : Bool) (s : State)

@[simp] theorem raiseAccess_st : (raiseAccess code off w s).st = s.st := rfl
@[simp] theorem raiseAccess_digest : (raiseAccess code off w s).digest = s.digest := rfl
@[simp] theorem raiseAccess_hex : (raiseAccess code off w s).hex = s.hex := rfl
@[simp] theorem raiseAccess_consumed : (raiseAccess code off w s).consumed = s.consumed := rfl
@[simp] theorem raiseAccess_digestValid : (raiseAccess code off w s).digestValid = s.digestValid := rfl
@[simp] theorem raiseAccess_hexValid : (raiseAccess code off w s).hexValid = s.hexValid := rfl
@[simp] theorem raiseAccess_resNone : (raiseAccess code off w s).resNone = s.resNone := rfl
@[simp] theorem raiseAccess_busy : (raiseAccess code off w s).busy = false := rfl
@[simp] theorem raiseAccess_faulted : (raiseAccess code off w s).faulted = true := rfl
@[simp] theorem raiseAccess_fault : (raiseAccess code off w s).fault = ⟨code, 0, off, w⟩ := rfl
@[simp] theorem raiseAccess_cmd : (raiseAccess code off w s).cmd = s.cmd := rfl
@[simp] theorem raiseAccess_arg0 : (raiseAccess code off w s).arg0 = s.arg0 := rfl
@[simp] theorem raiseAccess_arg1 : (raiseAccess code off w s).arg1 = s.arg1 := rfl
@[simp] theorem raiseAccess_data : (raiseAccess code off w s).data = s.data := rfl
@[simp] theorem raiseAccess_src : (raiseAccess code off w s).src = s.src := rfl
@[simp] theorem raiseAccess_srcReliable : (raiseAccess code off w s).srcReliable = s.srcReliable := rfl
@[simp] theorem raiseAccess_params : (raiseAccess code off w s).params = s.params := rfl
@[simp] theorem raiseAccess_hostMoves : (raiseAccess code off w s).hostMoves = s.hostMoves := rfl
@[simp] theorem raiseAccess_schedule : (raiseAccess code off w s).schedule = s.schedule := rfl
@[simp] theorem raiseAccess_recorded : (raiseAccess code off w s).recorded = s.recorded := rfl
@[simp] theorem raiseAccess_draws : (raiseAccess code off w s).draws = s.draws := rfl

end raiseAccess

section complete

variable (s : State)

@[simp] theorem complete_st : (complete s).st = s.st := rfl
@[simp] theorem complete_digest : (complete s).digest = s.digest := rfl
@[simp] theorem complete_hex : (complete s).hex = s.hex := rfl
@[simp] theorem complete_consumed : (complete s).consumed = s.consumed := rfl
@[simp] theorem complete_digestValid : (complete s).digestValid = s.digestValid := rfl
@[simp] theorem complete_hexValid : (complete s).hexValid = s.hexValid := rfl
@[simp] theorem complete_resNone : (complete s).resNone = s.resNone := rfl
@[simp] theorem complete_busy : (complete s).busy = false := rfl
@[simp] theorem complete_faulted : (complete s).faulted = s.faulted := rfl
@[simp] theorem complete_fault : (complete s).fault = s.fault := rfl
@[simp] theorem complete_cmd : (complete s).cmd = s.cmd := rfl
@[simp] theorem complete_arg0 : (complete s).arg0 = s.arg0 := rfl
@[simp] theorem complete_arg1 : (complete s).arg1 = s.arg1 := rfl
@[simp] theorem complete_data : (complete s).data = s.data := rfl
@[simp] theorem complete_src : (complete s).src = s.src := rfl
@[simp] theorem complete_srcReliable : (complete s).srcReliable = s.srcReliable := rfl
@[simp] theorem complete_params : (complete s).params = s.params := rfl
@[simp] theorem complete_hostMoves : (complete s).hostMoves = s.hostMoves := rfl
@[simp] theorem complete_schedule : (complete s).schedule = s.schedule := rfl
@[simp] theorem complete_recorded : (complete s).recorded = s.recorded := rfl
@[simp] theorem complete_draws : (complete s).draws = s.draws := rfl

end complete

section drawOne

variable (s : State)

@[simp] theorem drawOne_st : (drawOne s).st = s.st := rfl
@[simp] theorem drawOne_digest : (drawOne s).digest = s.digest := rfl
@[simp] theorem drawOne_hex : (drawOne s).hex = s.hex := rfl
@[simp] theorem drawOne_consumed : (drawOne s).consumed = s.consumed := rfl
@[simp] theorem drawOne_digestValid : (drawOne s).digestValid = s.digestValid := rfl
@[simp] theorem drawOne_hexValid : (drawOne s).hexValid = s.hexValid := rfl
@[simp] theorem drawOne_resNone : (drawOne s).resNone = s.resNone := rfl
@[simp] theorem drawOne_busy : (drawOne s).busy = s.busy := rfl
@[simp] theorem drawOne_faulted : (drawOne s).faulted = s.faulted := rfl
@[simp] theorem drawOne_fault : (drawOne s).fault = s.fault := rfl
@[simp] theorem drawOne_cmd : (drawOne s).cmd = s.cmd := rfl
@[simp] theorem drawOne_arg0 : (drawOne s).arg0 = s.arg0 := rfl
@[simp] theorem drawOne_arg1 : (drawOne s).arg1 = s.arg1 := rfl
@[simp] theorem drawOne_data : (drawOne s).data = s.data := rfl
@[simp] theorem drawOne_src : (drawOne s).src = s.src := rfl
@[simp] theorem drawOne_srcReliable : (drawOne s).srcReliable = s.srcReliable := rfl
@[simp] theorem drawOne_params : (drawOne s).params = s.params := rfl
@[simp] theorem drawOne_hostMoves : (drawOne s).hostMoves = s.hostMoves := rfl
@[simp] theorem drawOne_schedule : (drawOne s).schedule = s.schedule := rfl
@[simp] theorem drawOne_recorded : (drawOne s).recorded = s.recorded := rfl
@[simp] theorem drawOne_draws : (drawOne s).draws = s.draws + 1 := rfl

end drawOne

section setSt

variable (st : DigestState) (s : State)

@[simp] theorem setSt_st : (setSt st s).st = st := rfl
@[simp] theorem setSt_digest : (setSt st s).digest = s.digest := rfl
@[simp] theorem setSt_hex : (setSt st s).hex = s.hex := rfl
@[simp] theorem setSt_consumed : (setSt st s).consumed = s.consumed := rfl
@[simp] theorem setSt_digestValid : (setSt st s).digestValid = s.digestValid := rfl
@[simp] theorem setSt_hexValid : (setSt st s).hexValid = s.hexValid := rfl
@[simp] theorem setSt_resNone : (setSt st s).resNone = s.resNone := rfl
@[simp] theorem setSt_busy : (setSt st s).busy = s.busy := rfl
@[simp] theorem setSt_faulted : (setSt st s).faulted = s.faulted := rfl
@[simp] theorem setSt_fault : (setSt st s).fault = s.fault := rfl
@[simp] theorem setSt_cmd : (setSt st s).cmd = s.cmd := rfl
@[simp] theorem setSt_arg0 : (setSt st s).arg0 = s.arg0 := rfl
@[simp] theorem setSt_arg1 : (setSt st s).arg1 = s.arg1 := rfl
@[simp] theorem setSt_data : (setSt st s).data = s.data := rfl
@[simp] theorem setSt_src : (setSt st s).src = s.src := rfl
@[simp] theorem setSt_srcReliable : (setSt st s).srcReliable = s.srcReliable := rfl
@[simp] theorem setSt_params : (setSt st s).params = s.params := rfl
@[simp] theorem setSt_hostMoves : (setSt st s).hostMoves = s.hostMoves := rfl
@[simp] theorem setSt_schedule : (setSt st s).schedule = s.schedule := rfl
@[simp] theorem setSt_recorded : (setSt st s).recorded = s.recorded := rfl
@[simp] theorem setSt_draws : (setSt st s).draws = s.draws := rfl

end setSt

section setConsumed

variable (k : Nat) (s : State)

@[simp] theorem setConsumed_st : (setConsumed k s).st = s.st := rfl
@[simp] theorem setConsumed_digest : (setConsumed k s).digest = s.digest := rfl
@[simp] theorem setConsumed_hex : (setConsumed k s).hex = s.hex := rfl
@[simp] theorem setConsumed_consumed : (setConsumed k s).consumed = BitVec.ofNat 64 k := rfl
@[simp] theorem setConsumed_digestValid : (setConsumed k s).digestValid = s.digestValid := rfl
@[simp] theorem setConsumed_hexValid : (setConsumed k s).hexValid = s.hexValid := rfl
@[simp] theorem setConsumed_resNone : (setConsumed k s).resNone = s.resNone := rfl
@[simp] theorem setConsumed_busy : (setConsumed k s).busy = s.busy := rfl
@[simp] theorem setConsumed_faulted : (setConsumed k s).faulted = s.faulted := rfl
@[simp] theorem setConsumed_fault : (setConsumed k s).fault = s.fault := rfl
@[simp] theorem setConsumed_cmd : (setConsumed k s).cmd = s.cmd := rfl
@[simp] theorem setConsumed_arg0 : (setConsumed k s).arg0 = s.arg0 := rfl
@[simp] theorem setConsumed_arg1 : (setConsumed k s).arg1 = s.arg1 := rfl
@[simp] theorem setConsumed_data : (setConsumed k s).data = s.data := rfl
@[simp] theorem setConsumed_src : (setConsumed k s).src = s.src := rfl
@[simp] theorem setConsumed_srcReliable : (setConsumed k s).srcReliable = s.srcReliable := rfl
@[simp] theorem setConsumed_params : (setConsumed k s).params = s.params := rfl
@[simp] theorem setConsumed_hostMoves : (setConsumed k s).hostMoves = s.hostMoves := rfl
@[simp] theorem setConsumed_schedule : (setConsumed k s).schedule = s.schedule := rfl
@[simp] theorem setConsumed_recorded : (setConsumed k s).recorded = s.recorded := rfl
@[simp] theorem setConsumed_draws : (setConsumed k s).draws = s.draws := rfl

end setConsumed

section absorbInto

variable (bytes : List Byte) (s : State)

@[simp] theorem absorbInto_st : (absorbInto bytes s).st = absorb s.st bytes := rfl
@[simp] theorem absorbInto_digest : (absorbInto bytes s).digest = s.digest := rfl
@[simp] theorem absorbInto_hex : (absorbInto bytes s).hex = s.hex := rfl
@[simp] theorem absorbInto_consumed : (absorbInto bytes s).consumed = s.consumed := rfl
@[simp] theorem absorbInto_digestValid : (absorbInto bytes s).digestValid = s.digestValid := rfl
@[simp] theorem absorbInto_hexValid : (absorbInto bytes s).hexValid = s.hexValid := rfl
@[simp] theorem absorbInto_resNone : (absorbInto bytes s).resNone = s.resNone := rfl
@[simp] theorem absorbInto_busy : (absorbInto bytes s).busy = s.busy := rfl
@[simp] theorem absorbInto_faulted : (absorbInto bytes s).faulted = s.faulted := rfl
@[simp] theorem absorbInto_fault : (absorbInto bytes s).fault = s.fault := rfl
@[simp] theorem absorbInto_cmd : (absorbInto bytes s).cmd = s.cmd := rfl
@[simp] theorem absorbInto_arg0 : (absorbInto bytes s).arg0 = s.arg0 := rfl
@[simp] theorem absorbInto_arg1 : (absorbInto bytes s).arg1 = s.arg1 := rfl
@[simp] theorem absorbInto_data : (absorbInto bytes s).data = s.data := rfl
@[simp] theorem absorbInto_src : (absorbInto bytes s).src = s.src := rfl
@[simp] theorem absorbInto_srcReliable : (absorbInto bytes s).srcReliable = s.srcReliable := rfl
@[simp] theorem absorbInto_params : (absorbInto bytes s).params = s.params := rfl
@[simp] theorem absorbInto_hostMoves : (absorbInto bytes s).hostMoves = s.hostMoves := rfl
@[simp] theorem absorbInto_schedule : (absorbInto bytes s).schedule = s.schedule := rfl
@[simp] theorem absorbInto_recorded : (absorbInto bytes s).recorded = s.recorded := rfl
@[simp] theorem absorbInto_draws : (absorbInto bytes s).draws = s.draws := rfl

end absorbInto

section flagsFinalized

variable (s : State)

@[simp] theorem flagsFinalized_st : (flagsFinalized s).st = s.st := rfl
@[simp] theorem flagsFinalized_digest : (flagsFinalized s).digest = s.digest := rfl
@[simp] theorem flagsFinalized_hex : (flagsFinalized s).hex = s.hex := rfl
@[simp] theorem flagsFinalized_consumed : (flagsFinalized s).consumed = s.consumed := rfl
@[simp] theorem flagsFinalized_digestValid : (flagsFinalized s).digestValid = true := rfl
@[simp] theorem flagsFinalized_hexValid : (flagsFinalized s).hexValid = false := rfl
@[simp] theorem flagsFinalized_resNone : (flagsFinalized s).resNone = false := rfl
@[simp] theorem flagsFinalized_busy : (flagsFinalized s).busy = s.busy := rfl
@[simp] theorem flagsFinalized_faulted : (flagsFinalized s).faulted = s.faulted := rfl
@[simp] theorem flagsFinalized_fault : (flagsFinalized s).fault = s.fault := rfl
@[simp] theorem flagsFinalized_cmd : (flagsFinalized s).cmd = s.cmd := rfl
@[simp] theorem flagsFinalized_arg0 : (flagsFinalized s).arg0 = s.arg0 := rfl
@[simp] theorem flagsFinalized_arg1 : (flagsFinalized s).arg1 = s.arg1 := rfl
@[simp] theorem flagsFinalized_data : (flagsFinalized s).data = s.data := rfl
@[simp] theorem flagsFinalized_src : (flagsFinalized s).src = s.src := rfl
@[simp] theorem flagsFinalized_srcReliable : (flagsFinalized s).srcReliable = s.srcReliable := rfl
@[simp] theorem flagsFinalized_params : (flagsFinalized s).params = s.params := rfl
@[simp] theorem flagsFinalized_hostMoves : (flagsFinalized s).hostMoves = s.hostMoves := rfl
@[simp] theorem flagsFinalized_schedule : (flagsFinalized s).schedule = s.schedule := rfl
@[simp] theorem flagsFinalized_recorded : (flagsFinalized s).recorded = s.recorded := rfl
@[simp] theorem flagsFinalized_draws : (flagsFinalized s).draws = s.draws := rfl

end flagsFinalized

section flagsRendered

variable (s : State)

@[simp] theorem flagsRendered_st : (flagsRendered s).st = s.st := rfl
@[simp] theorem flagsRendered_digest : (flagsRendered s).digest = s.digest := rfl
@[simp] theorem flagsRendered_hex : (flagsRendered s).hex = s.hex := rfl
@[simp] theorem flagsRendered_consumed : (flagsRendered s).consumed = s.consumed := rfl
@[simp] theorem flagsRendered_digestValid : (flagsRendered s).digestValid = s.digestValid := rfl
@[simp] theorem flagsRendered_hexValid : (flagsRendered s).hexValid = true := rfl
@[simp] theorem flagsRendered_resNone : (flagsRendered s).resNone = s.resNone := rfl
@[simp] theorem flagsRendered_busy : (flagsRendered s).busy = s.busy := rfl
@[simp] theorem flagsRendered_faulted : (flagsRendered s).faulted = s.faulted := rfl
@[simp] theorem flagsRendered_fault : (flagsRendered s).fault = s.fault := rfl
@[simp] theorem flagsRendered_cmd : (flagsRendered s).cmd = s.cmd := rfl
@[simp] theorem flagsRendered_arg0 : (flagsRendered s).arg0 = s.arg0 := rfl
@[simp] theorem flagsRendered_arg1 : (flagsRendered s).arg1 = s.arg1 := rfl
@[simp] theorem flagsRendered_data : (flagsRendered s).data = s.data := rfl
@[simp] theorem flagsRendered_src : (flagsRendered s).src = s.src := rfl
@[simp] theorem flagsRendered_srcReliable : (flagsRendered s).srcReliable = s.srcReliable := rfl
@[simp] theorem flagsRendered_params : (flagsRendered s).params = s.params := rfl
@[simp] theorem flagsRendered_hostMoves : (flagsRendered s).hostMoves = s.hostMoves := rfl
@[simp] theorem flagsRendered_schedule : (flagsRendered s).schedule = s.schedule := rfl
@[simp] theorem flagsRendered_recorded : (flagsRendered s).recorded = s.recorded := rfl
@[simp] theorem flagsRendered_draws : (flagsRendered s).draws = s.draws := rfl

end flagsRendered

section flagsSome

variable (s : State)

@[simp] theorem flagsSome_st : (flagsSome s).st = s.st := rfl
@[simp] theorem flagsSome_digest : (flagsSome s).digest = s.digest := rfl
@[simp] theorem flagsSome_hex : (flagsSome s).hex = s.hex := rfl
@[simp] theorem flagsSome_consumed : (flagsSome s).consumed = s.consumed := rfl
@[simp] theorem flagsSome_digestValid : (flagsSome s).digestValid = true := rfl
@[simp] theorem flagsSome_hexValid : (flagsSome s).hexValid = true := rfl
@[simp] theorem flagsSome_resNone : (flagsSome s).resNone = false := rfl
@[simp] theorem flagsSome_busy : (flagsSome s).busy = s.busy := rfl
@[simp] theorem flagsSome_faulted : (flagsSome s).faulted = s.faulted := rfl
@[simp] theorem flagsSome_fault : (flagsSome s).fault = s.fault := rfl
@[simp] theorem flagsSome_cmd : (flagsSome s).cmd = s.cmd := rfl
@[simp] theorem flagsSome_arg0 : (flagsSome s).arg0 = s.arg0 := rfl
@[simp] theorem flagsSome_arg1 : (flagsSome s).arg1 = s.arg1 := rfl
@[simp] theorem flagsSome_data : (flagsSome s).data = s.data := rfl
@[simp] theorem flagsSome_src : (flagsSome s).src = s.src := rfl
@[simp] theorem flagsSome_srcReliable : (flagsSome s).srcReliable = s.srcReliable := rfl
@[simp] theorem flagsSome_params : (flagsSome s).params = s.params := rfl
@[simp] theorem flagsSome_hostMoves : (flagsSome s).hostMoves = s.hostMoves := rfl
@[simp] theorem flagsSome_schedule : (flagsSome s).schedule = s.schedule := rfl
@[simp] theorem flagsSome_recorded : (flagsSome s).recorded = s.recorded := rfl
@[simp] theorem flagsSome_draws : (flagsSome s).draws = s.draws := rfl

end flagsSome

section flagsNone

variable (s : State)

@[simp] theorem flagsNone_st : (flagsNone s).st = s.st := rfl
@[simp] theorem flagsNone_digest : (flagsNone s).digest = s.digest := rfl
@[simp] theorem flagsNone_hex : (flagsNone s).hex = s.hex := rfl
@[simp] theorem flagsNone_consumed : (flagsNone s).consumed = s.consumed := rfl
@[simp] theorem flagsNone_digestValid : (flagsNone s).digestValid = false := rfl
@[simp] theorem flagsNone_hexValid : (flagsNone s).hexValid = false := rfl
@[simp] theorem flagsNone_resNone : (flagsNone s).resNone = true := rfl
@[simp] theorem flagsNone_busy : (flagsNone s).busy = s.busy := rfl
@[simp] theorem flagsNone_faulted : (flagsNone s).faulted = s.faulted := rfl
@[simp] theorem flagsNone_fault : (flagsNone s).fault = s.fault := rfl
@[simp] theorem flagsNone_cmd : (flagsNone s).cmd = s.cmd := rfl
@[simp] theorem flagsNone_arg0 : (flagsNone s).arg0 = s.arg0 := rfl
@[simp] theorem flagsNone_arg1 : (flagsNone s).arg1 = s.arg1 := rfl
@[simp] theorem flagsNone_data : (flagsNone s).data = s.data := rfl
@[simp] theorem flagsNone_src : (flagsNone s).src = s.src := rfl
@[simp] theorem flagsNone_srcReliable : (flagsNone s).srcReliable = s.srcReliable := rfl
@[simp] theorem flagsNone_params : (flagsNone s).params = s.params := rfl
@[simp] theorem flagsNone_hostMoves : (flagsNone s).hostMoves = s.hostMoves := rfl
@[simp] theorem flagsNone_schedule : (flagsNone s).schedule = s.schedule := rfl
@[simp] theorem flagsNone_recorded : (flagsNone s).recorded = s.recorded := rfl
@[simp] theorem flagsNone_draws : (flagsNone s).draws = s.draws := rfl

end flagsNone

section commitSome

variable (s : State)

@[simp] theorem commitSome_st : (commitSome s).st = zeroState := rfl
@[simp] theorem commitSome_digest : (commitSome s).digest = packDigest (finalDigest s.st) := rfl
@[simp] theorem commitSome_hex : (commitSome s).hex = packHex (hexBytes (finalDigest s.st)) := rfl
@[simp] theorem commitSome_consumed : (commitSome s).consumed = s.consumed := rfl
@[simp] theorem commitSome_digestValid : (commitSome s).digestValid = true := rfl
@[simp] theorem commitSome_hexValid : (commitSome s).hexValid = true := rfl
@[simp] theorem commitSome_resNone : (commitSome s).resNone = false := rfl
@[simp] theorem commitSome_busy : (commitSome s).busy = s.busy := rfl
@[simp] theorem commitSome_faulted : (commitSome s).faulted = s.faulted := rfl
@[simp] theorem commitSome_fault : (commitSome s).fault = s.fault := rfl
@[simp] theorem commitSome_cmd : (commitSome s).cmd = s.cmd := rfl
@[simp] theorem commitSome_arg0 : (commitSome s).arg0 = s.arg0 := rfl
@[simp] theorem commitSome_arg1 : (commitSome s).arg1 = s.arg1 := rfl
@[simp] theorem commitSome_data : (commitSome s).data = s.data := rfl
@[simp] theorem commitSome_src : (commitSome s).src = s.src := rfl
@[simp] theorem commitSome_srcReliable : (commitSome s).srcReliable = s.srcReliable := rfl
@[simp] theorem commitSome_params : (commitSome s).params = s.params := rfl
@[simp] theorem commitSome_hostMoves : (commitSome s).hostMoves = s.hostMoves := rfl
@[simp] theorem commitSome_schedule : (commitSome s).schedule = s.schedule := rfl
@[simp] theorem commitSome_recorded : (commitSome s).recorded = s.recorded := rfl
@[simp] theorem commitSome_draws : (commitSome s).draws = s.draws := rfl

end commitSome

section commitNone

variable (s : State)

@[simp] theorem commitNone_st : (commitNone s).st = zeroState := rfl
@[simp] theorem commitNone_digest : (commitNone s).digest = Vector.replicate 4 0 := rfl
@[simp] theorem commitNone_hex : (commitNone s).hex = Vector.replicate 8 0 := rfl
@[simp] theorem commitNone_consumed : (commitNone s).consumed = s.consumed := rfl
@[simp] theorem commitNone_digestValid : (commitNone s).digestValid = false := rfl
@[simp] theorem commitNone_hexValid : (commitNone s).hexValid = false := rfl
@[simp] theorem commitNone_resNone : (commitNone s).resNone = true := rfl
@[simp] theorem commitNone_busy : (commitNone s).busy = s.busy := rfl
@[simp] theorem commitNone_faulted : (commitNone s).faulted = s.faulted := rfl
@[simp] theorem commitNone_fault : (commitNone s).fault = s.fault := rfl
@[simp] theorem commitNone_cmd : (commitNone s).cmd = s.cmd := rfl
@[simp] theorem commitNone_arg0 : (commitNone s).arg0 = s.arg0 := rfl
@[simp] theorem commitNone_arg1 : (commitNone s).arg1 = s.arg1 := rfl
@[simp] theorem commitNone_data : (commitNone s).data = s.data := rfl
@[simp] theorem commitNone_src : (commitNone s).src = s.src := rfl
@[simp] theorem commitNone_srcReliable : (commitNone s).srcReliable = s.srcReliable := rfl
@[simp] theorem commitNone_params : (commitNone s).params = s.params := rfl
@[simp] theorem commitNone_hostMoves : (commitNone s).hostMoves = s.hostMoves := rfl
@[simp] theorem commitNone_schedule : (commitNone s).schedule = s.schedule := rfl
@[simp] theorem commitNone_recorded : (commitNone s).recorded = s.recorded := rfl
@[simp] theorem commitNone_draws : (commitNone s).draws = s.draws := rfl

end commitNone

section applyReset

variable (s : State)

@[simp] theorem applyReset_st : (applyReset s).st = State.reset.st := rfl
@[simp] theorem applyReset_digest : (applyReset s).digest = State.reset.digest := rfl
@[simp] theorem applyReset_hex : (applyReset s).hex = State.reset.hex := rfl
@[simp] theorem applyReset_consumed : (applyReset s).consumed = State.reset.consumed := rfl
@[simp] theorem applyReset_digestValid : (applyReset s).digestValid = State.reset.digestValid := rfl
@[simp] theorem applyReset_hexValid : (applyReset s).hexValid = State.reset.hexValid := rfl
@[simp] theorem applyReset_resNone : (applyReset s).resNone = State.reset.resNone := rfl
@[simp] theorem applyReset_busy : (applyReset s).busy = State.reset.busy := rfl
@[simp] theorem applyReset_faulted : (applyReset s).faulted = State.reset.faulted := rfl
@[simp] theorem applyReset_fault : (applyReset s).fault = State.reset.fault := rfl
@[simp] theorem applyReset_cmd : (applyReset s).cmd = State.reset.cmd := rfl
@[simp] theorem applyReset_arg0 : (applyReset s).arg0 = State.reset.arg0 := rfl
@[simp] theorem applyReset_arg1 : (applyReset s).arg1 = State.reset.arg1 := rfl
@[simp] theorem applyReset_data : (applyReset s).data = State.reset.data := rfl
@[simp] theorem applyReset_src : (applyReset s).src = s.src := rfl
@[simp] theorem applyReset_srcReliable : (applyReset s).srcReliable = s.srcReliable := rfl
@[simp] theorem applyReset_params : (applyReset s).params = s.params := rfl
@[simp] theorem applyReset_hostMoves : (applyReset s).hostMoves = s.hostMoves := rfl
@[simp] theorem applyReset_schedule : (applyReset s).schedule = s.schedule := rfl
@[simp] theorem applyReset_recorded : (applyReset s).recorded = s.recorded := rfl
@[simp] theorem applyReset_draws : (applyReset s).draws = s.draws := rfl

end applyReset

section recordRead

variable (width : Nat) (off : Byte) (v : BitVec width) (s : State)

@[simp] theorem recordRead_st : (recordRead width off v s).st = s.st := rfl
@[simp] theorem recordRead_digest : (recordRead width off v s).digest = s.digest := rfl
@[simp] theorem recordRead_hex : (recordRead width off v s).hex = s.hex := rfl
@[simp] theorem recordRead_consumed : (recordRead width off v s).consumed = s.consumed := rfl
@[simp] theorem recordRead_digestValid : (recordRead width off v s).digestValid = s.digestValid := rfl
@[simp] theorem recordRead_hexValid : (recordRead width off v s).hexValid = s.hexValid := rfl
@[simp] theorem recordRead_resNone : (recordRead width off v s).resNone = s.resNone := rfl
@[simp] theorem recordRead_busy : (recordRead width off v s).busy = s.busy := rfl
@[simp] theorem recordRead_faulted : (recordRead width off v s).faulted = s.faulted := rfl
@[simp] theorem recordRead_fault : (recordRead width off v s).fault = s.fault := rfl
@[simp] theorem recordRead_cmd : (recordRead width off v s).cmd = s.cmd := rfl
@[simp] theorem recordRead_arg0 : (recordRead width off v s).arg0 = s.arg0 := rfl
@[simp] theorem recordRead_arg1 : (recordRead width off v s).arg1 = s.arg1 := rfl
@[simp] theorem recordRead_data : (recordRead width off v s).data = s.data := rfl
@[simp] theorem recordRead_src : (recordRead width off v s).src = s.src := rfl
@[simp] theorem recordRead_srcReliable : (recordRead width off v s).srcReliable = s.srcReliable := rfl
@[simp] theorem recordRead_params : (recordRead width off v s).params = s.params := rfl
@[simp] theorem recordRead_hostMoves : (recordRead width off v s).hostMoves = s.hostMoves := rfl
@[simp] theorem recordRead_schedule : (recordRead width off v s).schedule = s.schedule := rfl
@[simp] theorem recordRead_recorded : (recordRead width off v s).recorded = ⟨width, off, v⟩ :: s.recorded := rfl
@[simp] theorem recordRead_draws : (recordRead width off v s).draws = s.draws := rfl

end recordRead

end Sys2Proof.Machine
end

