-- ==== Sys2Proof/Laws/Ops.lean ====
section
/-! SUPPORT. What each shared operation can do, said once: a command's end, the byte-source read, RangeRead, a
recipe's commit, a host access, a step. Provers cite these and do not unfold the operation. -/

namespace Sys2Proof.Machine

/-- A command always ends in a next state: its first fault, or its effect completed (60_exceptions.md R200). -/
theorem runCommand_cases (check : Option FaultCode) (effect : State → State) (s : State) :
    (∃ code, check = some code ∧ runCommand check effect s = .next (raiseCommand code s)) ∨
      (check = none ∧ runCommand check effect s = .next (complete (effect s))) := by
  cases check with
  | none => exact .inr ⟨rfl, rfl⟩
  | some code => exact .inl ⟨code, rfl, rfl⟩

@[simp] theorem runCommand_none (effect : State → State) (s : State) :
    runCommand none effect s = .next (complete (effect s)) := rfl

@[simp] theorem runCommand_some (code : FaultCode) (effect : State → State) (s : State) :
    runCommand (some code) effect s = .next (raiseCommand code s) := rfl

/-- The check each command makes once decoded (60_exceptions.md R202). -/
def commandCheck (i : Instr) (s : State) : Option FaultCode :=
  match i with
  | .init => none
  | .update => updateCheck s
  | .pad _ => phaseCheck s
  | .finalize => phaseCheck s
  | .renderHex => digestCheck s
  | .digestRange => none
  | .hashGeneric => none
  | .hashSnes => none
  | .hashGenesis => none
  | .hashNes => none

/-- The effect of each command, before BUSY is cleared. -/
def commandEffect (i : Instr) (s : State) : State :=
  match i with
  | .init => setSt initState s
  | .update => absorbInto (updateBytes s) s
  | .pad fill => absorbInto (fillBytes fill (countOperand s)) s
  | .finalize => flagsFinalized { s with st := zeroState, digest := packDigest (finalDigest s.st) }
  | .renderHex => flagsRendered { s with hex := packHex (hexBytes (unpackWords s.digest.toList)) }
  | .digestRange =>
    setConsumed (rangeBytes (offsetOperand s) (maxLenOperand s) s).length
      (rangeRead (offsetOperand s) (maxLenOperand s) s)
  | .hashGeneric => hashWholeFile (fun _ => []) s
  | .hashSnes => hashSnes s.params s
  | .hashGenesis => hashGenesis s.params s
  | .hashNes => hashNes s.params s

/-- Every command is its check and its effect: the one fact to case on for a claim about all commands. -/
theorem exec_eq_runCommand (i : Instr) (s : State) :
    exec i s = runCommand (commandCheck i s) (commandEffect i) s := by
  cases i <;> rfl

/-- A read delivers no more than it can reach (20_memory.md R65). -/
theorem srcCount_le (s : State) (offset n : Nat) : srcCount s offset n ≤ srcReach s offset n := by
  unfold srcCount
  split
  · exact le_rfl
  · exact Nat.lt_succ_iff.1 (Nat.mod_lt _ (Nat.succ_pos _))

@[simp] theorem srcBytes_length (s : State) (offset n : Nat) :
    (srcBytes s offset n).length = srcCount s offset n := by
  have h := srcCount_le s offset n
  simp only [srcReach] at h
  simp only [srcBytes, List.length_take, List.length_drop]
  omega

/-- A reliable read delivers every byte asked for that the source holds (20_memory.md R65). -/
theorem srcBytes_reliable {s : State} (h : s.srcReliable = true) (offset n : Nat) :
    srcBytes s offset n = (s.src.data.drop offset).take n := by
  simp only [srcBytes, srcCount, h, if_true, srcReach]
  conv_rhs => rw [List.take_eq_take_min]
  rw [List.length_drop]

/-- A byte-source read changes nothing but the draws (20_memory.md R64). -/
theorem srcAfter_eq (s : State) : srcAfter s = { s with draws := (srcAfter s).draws } := by
  unfold srcAfter
  split <;> rfl

theorem srcAfter_reliable {s : State} (h : s.srcReliable = true) : srcAfter s = s := by simp [srcAfter, h]

/-- The bytes of a range read are never more than the effective length (41_range_and_recipes.md R161). -/
theorem rangeBytes_length_le (o m : Nat) (s : State) :
    (rangeBytes o m s).length ≤ effectiveLength s.src.size.toNat o m := by
  unfold rangeBytes
  split
  · rw [srcBytes_length]
    exact (srcCount_le _ _ _).trans (Nat.min_le_left _ _)
  · exact Nat.zero_le _

/-- The effective length stays inside the source's reported size (R161). -/
theorem effectiveLength_le (size o m : Nat) : effectiveLength size o m ≤ size - o := by
  unfold effectiveLength
  split
  · exact le_rfl
  · exact Nat.min_le_right _ _

/-- RangeRead writes St and takes draws; nothing else changes (41_range_and_recipes.md R162). -/
theorem rangeRead_eq (o m : Nat) (s : State) :
    rangeRead o m s =
      { s with st := absorb initState (rangeBytes o m s), draws := (rangeRead o m s).draws } := by
  unfold rangeRead
  split
  · rw [srcAfter_eq]
    rfl
  · rfl

@[simp] theorem rangeRead_st (o m : Nat) (s : State) : (rangeRead o m s).st = absorb initState (rangeBytes o m s) :=
  rfl

/-- A recipe that has read its bytes ends with a result or with none, by the count alone (R174). -/
theorem commitRead_cases (padFor : Nat → List Byte) (k : Nat) (s : State) :
    (k = 0 ∧ commitRead padFor k s = commitNone (setConsumed k s)) ∨
      (k ≠ 0 ∧ commitRead padFor k s = commitSome (absorbInto (padFor k) (setConsumed k s))) := by
  rcases eq_or_ne k 0 with h | h
  · exact .inl ⟨h, if_pos h⟩
  · exact .inr ⟨h, if_neg h⟩

/-- What a host write does, case by case in the order of 60_exceptions.md R203. -/
theorem hostWrite_cases (width : Nat) (offset : Byte) (v : Word) (s : State) :
    (s.faulted = true ∧ hostWrite width offset v s = s) ∨
      (s.faulted = false ∧ accessTarget width offset = none ∧
        hostWrite width offset v s = raiseAccess .busAccess offset true s) ∨
      (∃ r, s.faulted = false ∧ accessTarget width offset = some r ∧ regWritable r = false ∧
        hostWrite width offset v s = raiseAccess .busAccess offset true s) ∨
      (∃ r, s.faulted = false ∧ accessTarget width offset = some r ∧ regWritable r = true ∧ s.busy = true ∧
        hostWrite width offset v s = raiseAccess .busyWrite offset true s) ∨
      (∃ r, s.faulted = false ∧ accessTarget width offset = some r ∧ regWritable r = true ∧ s.busy = false ∧
        hostWrite width offset v s = writeReg r v s) := by
  unfold hostWrite
  cases hf : s.faulted with
  | true => exact .inl ⟨rfl, rfl⟩
  | false =>
    cases ht : accessTarget width offset with
    | none => exact .inr (.inl ⟨rfl, rfl, rfl⟩)
    | some r =>
      cases hw : regWritable r with
      | false => exact .inr (.inr (.inl ⟨r, rfl, rfl, hw, by simp [hw]⟩))
      | true =>
        cases hb : s.busy with
        | true => exact .inr (.inr (.inr (.inl ⟨r, rfl, rfl, hw, rfl, by simp [hw]⟩)))
        | false => exact .inr (.inr (.inr (.inr ⟨r, rfl, rfl, hw, rfl, by simp [hw]⟩)))

/-- What a host read does: a value recorded, and a free value taken or a BUS_ACCESS fault (60_exceptions.md R203). -/
theorem hostRead_cases (width : Nat) (offset : Byte) (s : State) :
    (∃ r, accessTarget width offset = some r ∧
        hostRead width offset s =
          recordRead width offset ((readValue r s).setWidth width) (readAfter r s)) ∨
      (accessTarget width offset = none ∧ s.faulted = true ∧
        hostRead width offset s =
          recordRead width offset (Config.freeBits s.draws width) (drawOne s)) ∨
      (accessTarget width offset = none ∧ s.faulted = false ∧
        hostRead width offset s = recordRead width offset 0 (raiseAccess .busAccess offset false s)) := by
  unfold hostRead
  cases ht : accessTarget width offset with
  | some r => exact .inl ⟨r, rfl, rfl⟩
  | none =>
    cases hf : s.faulted with
    | true => exact .inr (.inl ⟨rfl, rfl, rfl⟩)
    | false => exact .inr (.inr ⟨rfl, rfl, rfl⟩)

/-- A read of a register changes nothing but the draws (20_memory.md R63). -/
theorem readAfter_eq (r : HostReg) (s : State) : readAfter r s = { s with draws := (readAfter r s).draws } := by
  unfold readAfter
  split <;> rfl

/-- A step is the turn of one agent, on the state with the schedule advanced (60_exceptions.md R209). -/
theorem step_cases (s : State) :
    ∃ a rest, step s = agentTurn a { s with schedule := rest } ∧
      ((s.schedule = [] ∧ rest = [] ∧ a = defaultAgent s) ∨ s.schedule = a :: rest) := by
  cases h : s.schedule with
  | nil =>
    refine ⟨defaultAgent s, [], ?_, .inl ⟨rfl, rfl, rfl⟩⟩
    simp only [step, nextTurn, h]
    rw [← h]
  | cons a rest =>
    refine ⟨a, rest, ?_, .inr rfl⟩
    simp only [step, nextTurn, h]

/-- What the engine's turn does: nothing while idle or faulted, else the pending command or ILLEGAL_CMD
(60_exceptions.md R202, R205). -/
theorem engineTurn_cases (s : State) :
    ((s.busy = false ∨ s.faulted = true) ∧ engineTurn s = .next s) ∨
      (∃ i, s.busy = true ∧ s.faulted = false ∧ decode s.cmd = some i ∧ engineTurn s = exec i s) ∨
      (s.busy = true ∧ s.faulted = false ∧ decode s.cmd = none ∧
        engineTurn s = .next (raiseCommand .illegalCmd s)) := by
  unfold engineTurn runPending
  cases hb : s.busy with
  | false => exact .inl ⟨.inl rfl, rfl⟩
  | true =>
    cases hf : s.faulted with
    | true => exact .inl ⟨.inr rfl, rfl⟩
    | false =>
      cases hd : decode s.cmd with
      | some i => exact .inr (.inl ⟨i, rfl, rfl, rfl, rfl⟩)
      | none => exact .inr (.inr ⟨rfl, rfl, rfl, rfl⟩)

/-- The byte source at reset has its form (10_state.md R36). -/
theorem reset_source_wf : State.reset.src.wf State.reset.srcReliable = true := rfl

/-- Attaching a source, the one operation that writes it, keeps its form (10_state.md R36, 20_memory.md R81). -/
theorem hostAttach_wf {src : ByteSource} {s t : State} (h : hostAttach src s = .next t) :
    t.src = src ∧ t.src.wf t.srcReliable = true := by
  unfold hostAttach at h
  split at h
  · cases h
  · split at h
    · rename_i hw
      cases h
      exact ⟨rfl, hw⟩
    · cases h

end Sys2Proof.Machine
end

