-- ==== Sys2Proof/Laws/PerInstr.lean ====
section
/-! SUPPORT. Per-command facts about the command as syntax: the word it is encoded as is legal under the opcode map
(30_encoding.md R94, R96). -/

/-- The encoder's word selects a row of the opcode map (R96). -/
def Sys2Proof.Laws.LegalWord.Statement (i : Sys2Proof.Instr) : Prop :=
  Sys2Proof.wordLegal (Sys2Proof.encode i) = true

namespace Sys2Proof.Laws.LegalWord

theorem init : Statement .init := rfl

theorem update : Statement .update := rfl

theorem pad (fill : Sys2Proof.Byte) : Statement (.pad fill) := by
  revert fill
  unfold Statement
  decide +kernel

theorem finalize : Statement .finalize := rfl

theorem renderHex : Statement .renderHex := rfl

theorem digestRange : Statement .digestRange := rfl

theorem hashGeneric : Statement .hashGeneric := rfl

theorem hashSnes : Statement .hashSnes := rfl

theorem hashGenesis : Statement .hashGenesis := rfl

theorem hashNes : Statement .hashNes := rfl

end Sys2Proof.Laws.LegalWord
end

