-- ==== Sys2Proof/Machine/Asm.lean ====
section
/-! DEFINITION. Host programs (30_encoding.md R100, R101): statements and pseudo-instructions, and the register
accesses each stands for. -/

namespace Sys2Proof.Machine

/-- A register named in a statement: "a name of 10_state.md rule R37 or an offset" (R100). -/
inductive RegRef where
  | name (r : HostReg)
  | offset (o : Byte)
  deriving DecidableEq, Repr

/-- The offset a register name stands for. -/
def refOffset : RegRef → Byte
  | .name r => regOffset r
  | .offset o => o

/-- One line of a host program (R100, R101). `cmd` covers `cmd PAD fill=v`: the fill byte is part of the command. -/
inductive Stmt where
  | wr (reg : RegRef) (v : Word)
  | rd (reg : RegRef)
  | cmd (i : Instr)
  | wait
  | cmdw (i : Instr)
  | loadwin (bytes : List Byte)
  | absorb (bytes : List Byte)
  | pad (fill : Byte) (n : Word)
  | range (o m : Word)
  deriving DecidableEq, Repr

/-- `loadwin` takes at most the 64 bytes of the window (R101). -/
def stmtWellFormed : Stmt → Bool
  | .wr _ _ => true
  | .rd _ => true
  | .cmd _ => true
  | .wait => true
  | .cmdw _ => true
  | .loadwin bytes => bytes.length ≤ 64
  | .absorb _ => true
  | .pad _ _ => true
  | .range _ _ => true

/-- `wr REG, v` (R100). -/
def asmWrite (r : HostReg) (v : Word) : HostMove := .write 32 (regOffset r) v

/-- `cmd MNEMONIC` (R100): write the command word to CMD. -/
def asmCmd (i : Instr) : HostMove := asmWrite .cmd (encode i)

/-- `loadwin` (R101): the data registers the bytes reach, zero bytes up to a multiple of 4, then ARG0. -/
def asmLoadwin (bytes : List Byte) : List HostMove :=
  let n := bytes.length
  let padded := bytes ++ fillBytes 0 ((4 - n % 4) % 4)
  (List.range ((n + 3) / 4)).map (fun j => .write 32 (BitVec.ofNat 8 (0x80 + 4 * j)) (le32 padded (4 * j))) ++
    [asmWrite .arg0 (BitVec.ofNat 32 n)]

/-- The register accesses of one statement (R100, R101). -/
def expand : Stmt → List HostMove
  | .wr r v => [.write 32 (refOffset r) v]
  | .rd r => [.read 32 (refOffset r)]
  | .cmd i => [asmCmd i]
  | .wait => [.wait]
  | .cmdw i => [asmCmd i, .wait]
  | .loadwin bytes => asmLoadwin bytes
  | .absorb bytes => (pieces 64 bytes).flatMap fun p => asmLoadwin p ++ [asmCmd .update, .wait]
  | .pad fill n => [asmWrite .arg0 n, asmCmd (.pad fill), .wait]
  | .range o m => [asmWrite .arg0 o, asmWrite .arg1 m, asmCmd .digestRange, .wait]

/-- A host program as the host's moves to come. -/
def expandProgram (prog : List Stmt) : List HostMove := prog.flatMap expand

end Sys2Proof.Machine
end

