-- ==== Sys2Proof/Tests/Slice0.lean ====
section
/-! SUPPORT. The model's own tests: expected values are the spec's vectors (95_test_vectors.md) and words written out
from its encodings; and for every obligation with hypotheses a state that meets them. One step each. -/

namespace Sys2Proof.Tests

open Sys2Proof.Machine Sys2Proof.Safety

/-! ## The small states the tests start from -/

/-- The ASCII bytes of "abc". -/
def abc : List Byte := [0x61, 0x62, 0x63]

/-- The engine after INIT, having absorbed `bytes`. -/
def absorbed (bytes : List Byte) : State := { State.reset with st := absorb initState bytes }

/-- The engine after FINALIZE of "abc" (V2: the digest's register values are the spec's). -/
def finalized : State :=
  { State.reset with
    st := zeroed
    digest := #v[0x98500190, 0xB04FD23C, 0x7D3F96D6, 0x727FE128]
    digestValid := true }

/-- A pending command word, nothing faulted, no schedule. -/
def pending (w : Word) (s : State) : State := { s with cmd := w, busy := true }

/-- A reliable source that holds `bytes`. -/
def withFile (bytes : List Byte) (s : State) : State :=
  { s with src := ⟨true, BitVec.ofNat 64 bytes.length, bytes⟩ }

/-- A machine with another configuration record (00_scope.md R6). -/
def withRecord (p : Params) (s : State) : State := { s with params := p }

/-- An engine stopped by UPDATE after FINALIZE (P5). -/
def stopped : State := { finalized with faulted := true, fault := ⟨.finalized, 0x02, 0, false⟩, arg0 := 100, cmd := 2 }

/-- The 16-byte NES header `H(b4, b6, b7)` of 95_test_vectors.md section 5. -/
def nesHeader (b4 b6 b7 : Byte) : List Byte := [0x4E, 0x45, 0x53, 0x1A, b4, 0, b6, b7, 0, 0, 0, 0, 0, 0, 0, 0]

/-- A field of the next state, if the outcome is one. -/
def look {α : Type} (f : State → α) (o : Host.Outcome State Fault Refusal) : Option α :=
  match o with
  | .next t => some (f t)
  | .fault _ => none
  | .refused _ => none

/-- STATUS and FAULT as the host reads them. -/
def statusFault (s : State) : Word × Word := (readValue .status s, readValue .fault s)

/-- DIGEST0 to DIGEST3, CONSUMED_LO and STATUS. -/
def result (s : State) : Vector Word 4 × Word × Word := (s.digest, readValue .consumedLo s, readValue .status s)

/-- What a host access leaves in FAULT and STATUS. -/
def accessFault (s : State) : Word × Bool := (readValue .fault s, s.faulted)

/-! ## Well-formedness: ill-formed words and statements are refused (R95, R96, R101) -/

/-- 95_test_vectors.md section 3: the words that are no command. -/
theorem test_ill_formed_words_are_not_legal :
    ([0x00000000, 0x00000101, 0x00010003, 0x00000006, 0x0000000F, 0x00000011, 0x00000024, 0x80000020, 0x000000FF,
      0x00000002 ||| 0x00000100, 0x00000004 ||| 0x00010000, 0x0000FF05, 0x01000010, 0x00000121, 0x00000222,
      0x80000023] : List Word).all (fun w => !wordLegal w) = true := by decide +kernel

theorem test_loadwin_of_65_bytes_is_ill_formed :
    stmtWellFormed (.loadwin (List.replicate 65 0)) = false ∧ stmtWellFormed (.loadwin (List.replicate 64 0)) = true :=
  by decide +kernel

/-- The opcode map of WellFormed and the decoder agree on which of the 256 low bytes are commands. -/
theorem test_opcode_map_agrees_with_decoder :
    ∀ op : Byte, (decode (op.setWidth 32)).isSome = wordLegal (op.setWidth 32) := by decide +kernel

/-- At most one row of the opcode map matches any word: no two rows overlap (R94). -/
theorem test_opcode_rows_do_not_overlap :
    opcodeRows.Pairwise fun p q => p.word &&& (p.mask &&& q.mask) ≠ q.word &&& (p.mask &&& q.mask) := by decide +kernel

/-! ## Decoding: words written out from the opcode map (R94), and the rejections of 95_test_vectors.md section 3 -/

theorem test_decode_init : decode 0b00000000000000000000000000000001 = some .init := by decide
theorem test_decode_update : decode 0b00000000000000000000000000000010 = some .update := by decide
theorem test_decode_pad : decode 0b00000000000000001110111000000011 = some (.pad 0xEE) := by decide
theorem test_decode_finalize : decode 0b00000000000000000000000000000100 = some .finalize := by decide
theorem test_decode_renderHex : decode 0b00000000000000000000000000000101 = some .renderHex := by decide
theorem test_decode_digestRange : decode 0b00000000000000000000000000010000 = some .digestRange := by decide
theorem test_decode_hashGeneric : decode 0b00000000000000000000000000100000 = some .hashGeneric := by decide
theorem test_decode_hashSnes : decode 0b00000000000000000000000000100001 = some .hashSnes := by decide
theorem test_decode_hashGenesis : decode 0b00000000000000000000000000100010 = some .hashGenesis := by decide
theorem test_decode_hashNes : decode 0b00000000000000000000000000100011 = some .hashNes := by decide

theorem test_decode_rejects_by_name :
    decodeWord 0x00000000 = .rejected .reservedOpcode ∧ decodeWord 0x00000101 = .rejected .fillNotZero ∧
      decodeWord 0x00010003 = .rejected .rsvdNotZero ∧ decodeWord 0x00000006 = .rejected .reservedOpcode ∧
      decodeWord 0x0000000F = .rejected .reservedOpcode ∧ decodeWord 0x00000011 = .rejected .reservedOpcode ∧
      decodeWord 0x00000024 = .rejected .reservedOpcode ∧ decodeWord 0x80000020 = .rejected .rsvdNotZero ∧
      decodeWord 0x000000FF = .rejected .reservedOpcode := by decide

theorem test_encode_words :
    encode .init = 0x00000001 ∧ encode (.pad 0xFF) = 0x0000FF03 ∧ encode .renderHex = 0x00000005 ∧
      encode .digestRange = 0x00000010 ∧ encode .hashNes = 0x00000023 := by decide

theorem test_decodeTableWord_pad : decodeTableWord 32 0x0000FF03 = some (.pad 0xFF) := by decide

/-! ## One step of each command -/

/-- 40_digest.md R128's example, as the first step after reset. -/
theorem test_init :
    look (fun t => (readValue .stA t, readValue .stD t, readValue .cntLo t, readValue .status t))
      (step (State.reset.withFetchWord 32 0x00000001)) = some (0x67452301, 0x10325476, 0, 0x00000002) := by
  decide +kernel

/-- T3: INIT after FINALIZE keeps the digest and its flag. -/
theorem test_init_after_finalize :
    look (fun t => (t.digest, readValue .status t)) (exec .init finalized) =
      some (#v[0x98500190, 0xB04FD23C, 0x7D3F96D6, 0x727FE128], 0x0000000A) := by decide +kernel

/-- T3: a whole window of 0x61 compresses exactly one block (T1, a×64). -/
theorem test_update_whole_window :
    look (fun t => (readValue .stA t, readValue .stB t, readValue .stC t, readValue .stD t, readValue .status t))
      (exec .update { absorbed [] with arg0 := 64, data := Vector.replicate 16 0x61616161 }) =
      some (0x89D4FF56, 0x125CD962, 0x69CADE33, 0x0033E325, 0x00000002) := by decide +kernel

/-- T3: 65 is not truncated, 0xFFFFFFFF neither, and FINALIZED comes before BAD_LEN (section 6: STATUS 0x4C). -/
theorem test_update_faults :
    (look statusFault (exec .update { absorbed [] with arg0 := 65, cmd := 2 }) = some (0x00000042, 0x00000204) ∧
      look statusFault (exec .update { absorbed [] with arg0 := 0xFFFFFFFF, cmd := 2 }) =
        some (0x00000042, 0x00000204) ∧
      look statusFault (exec .update { finalized with arg0 := 100, cmd := 2 }) = some (0x0000004C, 0x00000203) ∧
      look statusFault (exec .update { State.reset with cmd := 2 }) = some (0x00000040, 0x00000202)) := by
  decide +kernel

/-- P2: 61 bytes of 0xEE after "abc" complete one block. -/
theorem test_pad_completes_block :
    look (fun t => (readValue .stA t, readValue .stB t, readValue .stC t, readValue .stD t, readValue .cntLo t))
      (exec (.pad 0xEE) { absorbed abc with arg0 := 61 }) =
      some (0xC45DD233, 0x44031F98, 0x5DE3A300, 0x23E3764D, 0x40) := by decide +kernel

theorem test_pad_after_reset : look statusFault (exec (.pad 0) { State.reset with cmd := 3 }) = some (0x40, 0x302) := by
  decide +kernel

/-- V1: the empty sequence. -/
theorem test_finalize_empty :
    look result (exec .finalize (absorbed [])) =
      some (#v[0xD98C1DD4, 0x04B2008F, 0x980980E9, 0x7E42F8EC], 0, 0x0000000C) := by decide +kernel

/-- T1: 56 bytes buffered take two blocks; 3b0c8ac703f828b04c6c197006d17218. -/
theorem test_finalize_two_blocks :
    look result (exec .finalize (absorbed (List.replicate 56 0x61))) =
      some (#v[0xC78A0C3B, 0xB028F803, 0x70196C4C, 0x1872D106], 0, 0x0000000C) := by decide +kernel

/-- V2, P1: the rendering of the digest of "abc". -/
theorem test_renderHex :
    look (fun t => (t.hex, readValue .status t)) (exec .renderHex finalized) =
      some (#v[0x31303039, 0x38393035, 0x32646333, 0x30626634, 0x36393664, 0x64376633, 0x31653832, 0x32376637],
        0x0000001C) := by decide +kernel

theorem test_renderHex_no_digest :
    look statusFault (exec .renderHex { State.reset with cmd := 5 }) = some (0x40, 0x505) := by decide +kernel

/-- 95_test_vectors.md section 4: CONSUMED and STATUS of rows (1,1), (2,5), (0,10), (3,0), (5,0), and source absent. -/
theorem test_digestRange :
    [((1 : Word), (1 : Word)), (2, 5), (0, 10), (3, 0), (5, 0)].map (fun p =>
        look (fun t => (readValue .consumedLo t, readValue .status t, t.st.buf[0]))
          (exec .digestRange { withFile abc State.reset with arg0 := p.1, arg1 := p.2 })) =
      [some (1, 0x102, 0x62), some (1, 0x102, 0x63), some (3, 0x302, 0x61), some (0, 2, 0), some (0, 2, 0)] ∧
      look (fun t => (t.consumed, readValue .status t)) (exec .digestRange { State.reset with arg0 := 9 }) =
        some (0, 2) := by decide +kernel

/-- P3: a range in the middle of a file. -/
theorem test_digestRange_middle :
    look (fun t => (t.consumed, t.st.buf.toList.take 3))
      (exec .digestRange { withFile [0x78, 0x78, 0x61, 0x62, 0x63, 0x79, 0x79] finalized with arg0 := 2, arg1 := 3 }) =
      some (3, abc) := by decide +kernel

/-- P3: the digest of "xxabcyy". -/
theorem test_hashGeneric :
    look result (exec .hashGeneric (withFile [0x78, 0x78, 0x61, 0x62, 0x63, 0x79, 0x79] State.reset)) =
      some (#v[0x7519F62F, 0xBE0BF9A8, 0x8E9CB72E, 0x25BFE2B8], 7, 0x0000001C) := by decide +kernel

/-- V8: an empty file gives no result from any recipe, whatever the engine held. -/
theorem test_recipes_empty_file :
    [Instr.hashGeneric, .hashSnes, .hashGenesis, .hashNes].map (fun i =>
        look (fun t => (result t, t.hex)) (exec i (withFile [] finalized))) =
      List.replicate 4 (some ((#v[0, 0, 0, 0], 0, 0x24), #v[0, 0, 0, 0, 0, 0, 0, 0])) := by decide +kernel

/-- T2: "abc" ++ 0xEE×61 has the digest 187327c7cd900f52604154d743e76e18: a record with a canonical size of 64. -/
theorem test_hashSnes_pads :
    look result (exec .hashSnes (withRecord { Config.params with canonSnes := 64, fillSnes := 0xEE }
      (withFile abc State.reset))) =
      some (#v[0xC7277318, 0x520F90CD, 0xD7544160, 0x186EE743], 3, 0x1C) := by decide +kernel

/-- T2: "abc" ++ 0xEE×125 has the digest 02e62fc972796a7d27f95b1ee71ae0c8: a canonical size of 128. -/
theorem test_hashGenesis_pads :
    look result (exec .hashGenesis (withRecord { Config.params with canonGenesis := 128, fillGenesis := 0xEE }
      (withFile abc State.reset))) =
      some (#v[0xC92FE602, 0x7D6A7972, 0x1E5BF927, 0xC8E01AE7], 3, 0x1C) := by decide +kernel

/-- N7: with no bank declared the rest of the file is digested unpadded. -/
theorem test_hashNes_zero_banks :
    look result (exec .hashNes (withFile (nesHeader 0 0 0 ++ abc) State.reset)) =
      some (#v[0x98500190, 0xB04FD23C, 0x7D3F96D6, 0x727FE128], 3, 0x0000001C) := by decide +kernel

/-- N4, N5, N6, N11: bad magic, a short header, no byte after it, no byte after the trainer skip. -/
theorem test_hashNes_no_result :
    [[0x4E, 0x45, 0x53, 0x00] ++ List.replicate 112 0, (nesHeader 1 0 0).take 15, nesHeader 1 0 0,
      nesHeader 1 0x04 0 ++ List.replicate 16 0].map (fun f =>
        look (fun t => (t.digest, t.consumed, readValue .status t)) (exec .hashNes (withFile f finalized))) =
      List.replicate 4 (some (#v[0, 0, 0, 0], 0, 0x24)) := by decide +kernel

/-! ## The NES header's fields (N1 to N3, N8 to N10, R169, R170) -/

theorem test_nes_windows :
    [nesHeader 3 0 0, nesHeader 3 0x50 0x30, nesHeader 1 0x04 0, nesHeader 5 0x60 0xC0, nesHeader 3 0x40 0xE0,
      nesHeader 2 0 0, nesHeader 3 0x30 0x50, nesHeader 255 0 0].map (fun h =>
        ((nesMapper h).toNat, nesWindow Config.params h, nesStart Config.params h)) =
      [(0, 0x10000, 16), (53, 0xC000, 16), (0, 0x4000, 32), (198, 0x14000, 16), (228, 0xC000, 16), (0, 0x8000, 16),
        (83, 0x10000, 16), (0, 0x400000, 16)] := by decide +kernel

theorem test_nextPow2 :
    ([0, 1, 2, 3, 4, 5, 127, 128, 129, 255] : List Byte).map nextPow2 = [0, 1, 2, 4, 4, 8, 128, 128, 256, 256] := by
  decide +kernel

/-! ## Pending words, host accesses, reset (95_test_vectors.md sections 3 and 6, P5, P6) -/

/-- Section 3: FAULT after an illegal word runs. -/
theorem test_illegal_words_fault :
    ([0x00000000, 0x00000101, 0x00010003, 0x00000006, 0x0000000F, 0x00000011, 0x00000024, 0x80000020, 0x000000FF] :
      List Word).map (fun w => look (readValue .fault) (step (pending w State.reset))) =
      ([0x00000001, 0x00000101, 0x00000301, 0x00000601, 0x00000F01, 0x00001101, 0x00002401, 0x00002001, 0x0000FF01] :
        List Word).map some := by decide +kernel

/-- Section 6: the accesses of the table that fault, and the FAULT word of each. -/
theorem test_access_faults :
    accessFault (hostWrite 32 0x04 0 State.reset) = (0x01040007, true) ∧
      accessFault (hostRead 32 0x1C State.reset) = (0x001C0007, true) ∧
      (hostRead 32 0x1C State.reset).recorded = [⟨32, 0x1C, 0⟩] ∧
      accessFault (hostWrite 32 0xC0 0 State.reset) = (0x01C00007, true) ∧
      accessFault (hostRead 8 0x40 State.reset) = (0x00400007, true) ∧
      accessFault (hostWrite 32 0x82 0 State.reset) = (0x01820007, true) ∧
      accessFault (hostWrite 32 0x40 0 State.reset) = (0x01400007, true) ∧
      accessFault (hostWrite 32 0x0C 0 (pending 1 State.reset)) = (0x010C0006, true) ∧
      accessFault (hostWrite 32 0x00 0 (pending 1 State.reset)) = (0x01000006, true) := by decide +kernel

/-- P5: a faulted engine drops the write to ARG0, keeps its results readable, and is cleared by reset. -/
theorem test_faulted_engine :
    hostWrite 32 0x0C 5 stopped = stopped ∧ readValue .arg0 stopped = 0x64 ∧
      readValue (.digest 0) stopped = 0x98500190 ∧ readValue .status stopped = 0x4C ∧
      applyReset stopped = State.reset := by decide +kernel

/-- P6: both orders of a pending INIT and a write to ARG0. -/
theorem test_busy_write_race :
    (look (fun t => (statusFault t, t.arg0, t.hostMoves.length))
        (step { pending 1 State.reset with hostMoves := [.write 32 0x0C 1], schedule := [.engine] }) =
      some ((0x00000002, 0), 0, 1)) ∧
    look (fun t => (statusFault t, t.arg0, t.hostMoves.length))
        (step { pending 1 State.reset with hostMoves := [.write 32 0x0C 1], schedule := [.host] }) =
      some ((0x00000040, 0x010C0006), 0, 0) := by decide +kernel

/-- P2: the accesses of `absorb "a"` and of `pad 0xEE, 61`. -/
theorem test_expand :
    expand (.absorb [0x61]) = [.write 32 0x80 0x61, .write 32 0x0C 1, .write 32 0x00 2, .wait] ∧
      expand (.pad 0xEE 61) = [.write 32 0x0C 0x3D, .write 32 0x00 0x0000EE03, .wait] ∧
      expand (.range 2 3) = [.write 32 0x0C 2, .write 32 0x10 3, .write 32 0x00 0x10, .wait] := by decide +kernel

/-- The spec's default for every field of the configuration record that a result can show (00_scope.md R10). -/
theorem test_config :
    (State.reset.params.canonSnes, State.reset.params.canonGenesis, State.reset.params.nesNoRound,
      State.reset.params.fillNes) = (8388608, 6291456, [53, 198, 228], 0xFF) := by decide

/-- R252: the observation says nothing of ST_A after reset, and gives DIGEST0 of V2 and ST_A after FINALIZE. -/
theorem test_observation :
    (HostReg.stA, none) ∈ observation State.reset ∧ (HostReg.status, some 0) ∈ observation State.reset ∧
      (HostReg.stA, some 0) ∈ observation finalized ∧
      (HostReg.digest 0, some 0x98500190) ∈ observation finalized := by decide +kernel

/-! ## Witnesses: for each obligation with hypotheses, states that meet them, each clause at a boundary -/

theorem witness_DecodeEncodeRoundTrip : (Instr.pad 0xFF).wellFormed = true := rfl

theorem witness_EncodeDecodeRoundTrip : decode 0x0000FF03 = some (.pad 0xFF) := by decide

/-- PAD's word with a reserved bit set, pending on the reset engine. -/
theorem witness_IllegalWordFaults :
    let s := pending 0x00010003 State.reset
    s.schedule = [] ∧ s.busy = true ∧ s.faulted = false ∧ wordLegal s.cmd = false := by decide

/-- The ends of every reserved range; the opcodes beside them are not reserved. -/
theorem witness_ReservedOpcodeFaults :
    (∀ s ∈ ([0x00, 0x06, 0x0F, 0x11, 0x1F, 0x24, 0xFF] : List Word).map (pending · State.reset),
      s.schedule = [] ∧ s.busy = true ∧ s.faulted = false ∧
        reservedOpcode (s.cmd.extractLsb' 0 8).toNat = true) ∧
      ∀ op ∈ ([0x01, 0x05, 0x10, 0x20, 0x23] : List Nat), reservedOpcode op = false := by decide

theorem witness_StepRunsDecodedCommand :
    let s := pending 0x0000EE03 (absorbed [])
    s.busy = true ∧ s.faulted = false ∧ decode s.cmd = some (.pad 0xEE) ∧ (Instr.pad 0xEE).wellFormed = true ∧
      s.schedule = [] ∧ { s with schedule := [.engine, .host] }.schedule = .engine :: [.host] := by decide

/-- An idle engine for the write; a pending command and a pending word that is none for the step. -/
theorem witness_PendingCommandEndsInOneStep :
    (State.reset.busy = false ∧ State.reset.faulted = false) ∧
      ∀ s ∈ [pending 0x00000001 State.reset, pending 0x00000006 State.reset],
        s.schedule = [] ∧ s.busy = true ∧ s.faulted = false := by decide

theorem witness_BothOrdersAdmitted :
    let s := { pending 1 State.reset with hostMoves := [.write 32 (regOffset .arg0) 1] }
    s.busy = true ∧ s.faulted = false ∧ decode s.cmd = some .init ∧ regWritable .arg0 = true ∧
      s.hostMoves = [.write 32 (regOffset .arg0) 1] := by decide

/-- The two stops do occur: attaching while BUSY, and a reliable source that is not as long as its size. -/
theorem witness_OnlyAttachStops :
    step { pending 1 State.reset with hostMoves := [.attach ByteSource.absent], schedule := [.host] } =
        .refused .sourceChangedWhileBusy ∧
      step { State.reset with hostMoves := [.attach ⟨true, 5, abc⟩] } = .fault .sourceSizeMismatch := ⟨rfl, rfl⟩

/-- The three phases; LEN 0, 64 and 65. -/
theorem witness_UpdateResult :
    State.reset.st.phase = .uninit ∧ finalized.st.phase = .final ∧ (absorbed abc).st.phase = .absorb ∧
      64 < { absorbed abc with arg0 := 65 }.arg0.toNat ∧ { absorbed abc with arg0 := 64 }.arg0.toNat ≤ 64 ∧
      (absorbed abc).arg0.toNat = 0 := by decide

/-- BUF_CNT + LEN = 63 and 64, the two sides of the block's end. -/
theorem witness_UpdateCompressesAtMostOneBlock :
    let s := { absorbed [0x61] with arg0 := 62 }
    let s' := { absorbed [0x61] with arg0 := 63 }
    (s.st.phase = .absorb ∧ s.arg0.toNat ≤ 64) ∧ (s'.st.phase = .absorb ∧ s'.arg0.toNat ≤ 64) ∧
      (∃ t, exec .update s = .next t) ∧ (∃ t, exec .update s' = .next t) :=
  ⟨by decide, by decide, ⟨_, rfl⟩, ⟨_, rfl⟩⟩

/-- The first and the last byte of the window (R34). -/
theorem witness_WindowIsLittleEndian :
    let s := { State.reset with data := (Vector.replicate 16 0).set 0 0x44434241 |>.set 15 0x7A000000 }
    0 < 64 ∧ (window s)[0]? = some 0x41 ∧ 63 < 64 ∧ (window s)[63]? = some 0x7A := by decide +kernel

theorem witness_PadResult :
    State.reset.st.phase = .uninit ∧ finalized.st.phase = .final ∧ (absorbed []).st.phase = .absorb ∧
      { absorbed [] with arg0 := 0xFFFFFFFF }.st.phase = .absorb := by decide

theorem witness_FinalizeResult :
    State.reset.st.phase = .uninit ∧ finalized.st.phase = .final ∧ (absorbed abc).st.phase = .absorb := by decide

theorem witness_DigestIsFinalRegisters :
    (absorbed abc).st.phase = .absorb ∧ ∃ t, exec .finalize (absorbed abc) = .next t := ⟨by decide, _, rfl⟩

theorem witness_FinalizeGivesMdFive : (absorbed abc).st = absorb initState abc := rfl

/-- BUF_CNT 0, 55, 56 and 63. -/
theorem witness_FinalizeBlockCount :
    ∀ n ∈ [(0, true), (55, true), (56, false), (63, false)],
      ((absorb initState (List.replicate n.1 0x61)).cnt.toNat % 64 = n.1) ∧ (n.1 ≤ 55 ↔ n.2 = true) := by
  decide +kernel

theorem witness_ChunkedStreamingAgrees : 0 < Config.params.readChunk ∧ 0 < Config.params.padChunk := by decide

theorem witness_CounterWraps :
    let s := { absorbed [] with st := { initState with cnt := 0xFFFFFFFFFFFFFFFF }, arg0 := 1 }
    s.st.phase = .absorb ∧ s.st.cnt = 0xFFFFFFFFFFFFFFFF ∧ s.arg0 = 1 := by decide

theorem witness_RenderHexResult : State.reset.digestValid = false ∧ finalized.digestValid = true := by decide

/-- The digits on both sides of 9 and at the ends: 0x09AF renders as "09af". -/
theorem witness_RenderingIsLowercaseHex :
    (List.replicate 16 (0xAF : Byte)).length = 16 ∧ (List.replicate 16 (0xAF : Byte))[15]? = some 0xAF ∧
      hexBytes [0x09, 0xAF] = [0x30, 0x39, 0x61, 0x66] := by decide

/-- An absent source, a reliable and an unreliable one. -/
theorem witness_DigestRangeResult :
    let s := withFile abc State.reset
    let u := { s with srcReliable := false }
    State.reset.src.present = false ∧ (s.src.present = true ∧ s.srcReliable = true) ∧
      u.src.present = true ∧ u.srcReliable = false := by decide

/-- An absent source, an empty one and one with bytes, read reliably and not. -/
theorem witness_HashGenericResult :
    State.reset.src.present = false ∧ (withFile [] State.reset).src.present = true ∧
      (let s := withFile abc State.reset
       s.src.present = true ∧ s.srcReliable = true ∧ min s.src.size.toNat s.src.data.length = 3) ∧
      { withFile abc State.reset with srcReliable := false }.src.present = true := by decide

theorem witness_HashSnesResult :
    State.reset.src.present = false ∧
      (let s := withFile [0x00] finalized
       s.src.present = true ∧ s.srcReliable = true ∧ min s.src.size.toNat s.src.data.length = 1) ∧
      { withFile abc finalized with srcReliable := false }.src.present = true := by decide

theorem witness_HashGenesisResult :
    State.reset.src.present = false ∧
      (let s := withFile [0x00] (absorbed abc)
       s.src.present = true ∧ s.srcReliable = true ∧ min s.src.size.toNat s.src.data.length = 1) ∧
      { withFile abc finalized with srcReliable := false }.src.present = true := by decide

/-- Files of 15 and 16 bytes, a bad magic, and a file with a byte after its header. -/
theorem witness_HashNesResult :
    State.reset.src.present = false ∧
      ((nesHeader 1 0 0).take 15).length < 16 ∧ ¬(nesHeader 1 0 0).length < 16 ∧
      ([0x4E, 0x45, 0x53, 0x00] : List Byte) ≠ [0x4E, 0x45, 0x53, 0x1A] ∧
      (let s := withFile (nesHeader 1 0x04 0 ++ List.replicate 17 0x11) State.reset
       s.src.present = true ∧ s.srcReliable = true ∧ (s.src.data.take 16).take 4 = [0x4E, 0x45, 0x53, 0x1A] ∧
         min 0x4000 (s.src.size.toNat - 32) = 1) ∧
      { withFile (nesHeader 1 0 0) State.reset with srcReliable := false }.src.present = true := by decide +kernel

theorem witness_BankRoundingIsLeastPowerOfTwo : (1 : Byte) ≠ 0 ∧ (255 : Byte) ≠ 0 := by decide

/-- Each of the three mappers that are not rounded, and one that is. -/
theorem witness_NesWindowSize :
    nesMapper (nesHeader 3 0x50 0x30) = 53 ∧ nesMapper (nesHeader 5 0x60 0xC0) = 198 ∧
      nesMapper (nesHeader 3 0x40 0xE0) = 228 ∧ nesMapper (nesHeader 3 0x30 0x50) ≠ 53 ∧
      nesMapper (nesHeader 3 0x30 0x50) ≠ 198 ∧ nesMapper (nesHeader 3 0x30 0x50) ≠ 228 ∧
      nesMapper (nesHeader 3 0x50 0x30) ∈ Config.params.nesNoRound ∧
      nesMapper (nesHeader 3 0x30 0x50) ∉ Config.params.nesNoRound := by decide

theorem witness_EarlyEndActsAsShortFile :
    let s := { withFile abc State.reset with srcReliable := false }
    readsSource .digestRange = true ∧ readsSource .hashNes = true ∧ s.src.present = true ∧ s.srcReliable = false := by
  decide

/-- The same file attached to a fresh engine and to one that has run. -/
theorem witness_RecipesIgnoreEngineState :
    let s := withFile abc State.reset
    let s' := withFile abc { finalized with arg0 := 7 }
    isRecipe .hashSnes = true ∧ s'.src = s.src ∧ s'.srcReliable = s.srcReliable ∧ s'.params = s.params ∧
      s'.draws = s.draws := by decide

/-- FINALIZE completes on every engine that has absorbed since INIT, 8 MiB of it too. -/
theorem finalize_absorbed (bytes : List Byte) : ∃ v, exec .finalize (absorbed bytes) = .next v := by
  have h : phaseCheck (absorbed bytes) = none := by simp [phaseCheck, absorbed, initState]
  simp [exec, execFinalize, h]

/-- "abc" and the engine that absorbed it padded to 8 and to 6 MiB; N7 and the engine that absorbed its last 3 bytes. -/
theorem witness_PaddingEquivalence :
    let s := withFile abc State.reset
    let n := withFile (nesHeader 0 0 0 ++ abc) State.reset
    (s.src.present = true ∧ s.srcReliable = true ∧ s.src.wf true = true ∧ 0 < s.src.data.length ∧
      s.src.data.length ≤ s.params.canonSnes ∧ s.src.data.length ≤ s.params.canonGenesis) ∧
    (∃ t, exec .hashSnes s = .next t) ∧ (∃ t, exec .hashGenesis s = .next t) ∧
    (∃ v, exec .finalize (absorbed (abc ++ List.replicate (s.params.canonSnes - 3) s.params.fillSnes)) = .next v) ∧
    (∃ v, exec .finalize (absorbed (abc ++ List.replicate (s.params.canonGenesis - 3) s.params.fillGenesis)) = .next v) ∧
    (n.src.wf true = true ∧ n.params.nesHeaderLen ≤ n.src.data.length ∧
      (n.src.data.take n.params.nesHeaderLen).take 4 = n.params.nesMagic ∧
      nesWindow n.params (n.src.data.take n.params.nesHeaderLen) = 0 ∧
      n.src.data.drop (nesStart n.params (n.src.data.take n.params.nesHeaderLen)) = abc) ∧
    (∃ t, exec .hashNes n = .next t) ∧ ∃ v, exec .finalize (absorbed (abc ++ List.replicate (0 - 3) n.params.fillNes)) = .next v :=
  ⟨by decide, ⟨_, rfl⟩, ⟨_, rfl⟩, finalize_absorbed _, finalize_absorbed _, by decide +kernel, ⟨_, rfl⟩,
    finalize_absorbed _⟩

theorem witness_RecipeIsIdempotent :
    isRecipe .hashGeneric = true ∧ (withFile abc State.reset).srcReliable = true ∧
      ∃ t, exec .hashGeneric (withFile abc State.reset) = .next t := ⟨rfl, rfl, _, rfl⟩

theorem witness_CommandsKeepInputs :
    (∃ t, exec .digestRange (withFile abc State.reset) = .next t) ∧ ∃ t, exec .update State.reset = .next t :=
  ⟨⟨_, rfl⟩, _, rfl⟩

/-- A completing and a faulting command of each form. -/
theorem witness_AbsorbingCommandsFrame :
    (∃ t, exec .init State.reset = .next t) ∧
      (∃ t, exec .update (absorbed abc) = .next t) ∧ ∃ t, exec (.pad 7) State.reset = .next t :=
  ⟨⟨_, rfl⟩, ⟨_, rfl⟩, _, rfl⟩

theorem witness_FinalizeFrame :
    (∃ t, exec .finalize (absorbed abc) = .next t) ∧
      ∃ t, exec .finalize State.reset = .next t := ⟨⟨_, rfl⟩, _, rfl⟩

theorem witness_RenderHexFrame :
    (∃ t, exec .renderHex finalized = .next t) ∧
      ∃ t, exec .renderHex State.reset = .next t := ⟨⟨_, rfl⟩, _, rfl⟩

theorem witness_DigestRangeFrame :
    (withFile abc State.reset).srcReliable = true ∧ ∃ t, exec .digestRange (withFile abc State.reset) = .next t :=
  ⟨rfl, _, rfl⟩

theorem witness_RecipesFrame :
    isRecipe .hashNes = true ∧ (withFile abc State.reset).srcReliable = true ∧
      ∃ t, exec .hashNes (withFile abc State.reset) = .next t := ⟨rfl, rfl, _, rfl⟩

/-- An idle engine for the write to CMD, a command that completes, and a step that faults. -/
theorem witness_FlagWriteTable :
    (State.reset.faulted = false ∧ State.reset.busy = false) ∧
      (∃ t, exec .init State.reset = .next t ∧ t.faulted = false) ∧
      ∃ t, step (pending 2 State.reset) = .next t ∧ t.faulted = true := ⟨⟨rfl, rfl⟩, ⟨_, rfl, rfl⟩, _, rfl, rfl⟩

/-- One pending word for each line of R202: no command, NOT_INIT, FINALIZED, BAD_LEN, NO_DIGEST, none. -/
theorem witness_CommandCheckOrder :
    (∀ s ∈ [pending 0 State.reset, pending 4 State.reset, pending 2 { finalized with arg0 := 100 },
        pending 2 { absorbed [] with arg0 := 65 }, pending 5 State.reset, pending 1 State.reset],
      s.schedule = [] ∧ s.busy = true ∧ s.faulted = false) ∧
      decode 0 = none ∧ (decode 4 = some .finalize ∧ needsAbsorb .finalize = true ∧ State.reset.st.phase = .uninit) ∧
      (decode 2 = some .update ∧ needsAbsorb .update = true ∧ finalized.st.phase = .final) ∧
      64 < { absorbed [] with arg0 := 65 }.arg0.toNat ∧
      (decode 5 = some .renderHex ∧ State.reset.digestValid = false) ∧ decode 1 = some .init := by decide

/-- A command fault, a read fault, a write fault and a busy-write fault, each taken by one step. -/
theorem witness_FaultsArePrecise :
    ∀ s ∈ [pending 6 State.reset, { State.reset with hostMoves := [.read 8 0x40] },
        { State.reset with hostMoves := [.write 32 0x1C 0] },
        { pending 1 State.reset with hostMoves := [.write 32 0 1], schedule := [.host] }],
      s.faulted = false ∧ look State.faulted (step s) = some true := by decide +kernel

/-- A faulted engine whose host reads, and one whose host asserts reset. -/
theorem witness_OnlyResetLeavesFault :
    stopped.faulted = true ∧ (∃ t, step { stopped with hostMoves := [.read 32 0x08] } = .next t) ∧
      ∃ t, step { stopped with hostMoves := [.reset] } = .next t ∧ t.faulted = false := ⟨rfl, ⟨_, rfl⟩, _, rfl, rfl⟩

/-- An offset of the map, a reserved one and an unaligned one. -/
theorem witness_RegisterMapIsExact :
    regAt 0xBC = some (.data 15) ∧ (regAt 0x1C).isNone = true ∧ (regAt 0x81).isNone = true ∧
      (regAt 0x6C).isNone = false := by decide +kernel

/-- Both ends of every reserved range. -/
theorem witness_ReservedOffsetFaults :
    State.reset.faulted = false ∧
      ∀ o ∈ ([0x1C, 0x38, 0x3C, 0x70, 0x7C, 0xC0, 0xFC] : List Byte), reservedOffset o.toNat = true := by decide

theorem witness_MalformedAccessFaults :
    State.reset.faulted = false ∧ (8 ≠ 32 ∨ (0x40 : Byte).toNat % 4 ≠ 0) ∧ (64 ≠ 32 ∨ (0x40 : Byte).toNat % 4 ≠ 0) ∧
      (32 ≠ 32 ∨ (0x82 : Byte).toNat % 4 ≠ 0) := by decide

theorem witness_ReadOnlyWriteFaults :
    (pending 1 State.reset).faulted = false ∧
      ∃ r ∈ [HostReg.status, .hex 7], (0x6C : Byte) = regOffset r := ⟨rfl, .hex 7, by decide, by decide⟩

theorem witness_BusyWriteFaults :
    let s := pending 1 State.reset
    s.faulted = false ∧ s.busy = true ∧
      (HostReg.data 15 = .cmd ∨ HostReg.data 15 = .arg0 ∨ HostReg.data 15 = .arg1 ∨ ∃ n, HostReg.data 15 = .data n) :=
  ⟨rfl, rfl, .inr (.inr (.inr ⟨15, rfl⟩))⟩

theorem witness_AcceptedWriteReadsBack :
    finalized.faulted = false ∧ finalized.busy = false ∧
      (HostReg.arg1 = .arg0 ∨ HostReg.arg1 = .arg1 ∨ ∃ n, HostReg.arg1 = .data n) ∧
      HostReg.cntHi ≠ .arg1 ∧ readIsDraw .cntHi finalized = false := ⟨rfl, rfl, .inr (.inl rfl), by decide, rfl⟩

/-- A register that is no draw, and one that is; a host that waits on a pending command, and one that need not. -/
theorem witness_ReadsHaveNoSideEffect :
    readIsDraw .status State.reset = false ∧ readIsDraw .stA State.reset = true ∧
      { pending 1 State.reset with hostMoves := [.wait] }.hostMoves = .wait :: [] ∧
      { State.reset with hostMoves := [.wait, .reset] }.hostMoves = .wait :: [.reset] := by decide

theorem witness_FaultedAccesses :
    stopped.faulted = true ∧ (32 = 32 ∧ (0x40 : Byte) = regOffset (.digest 0)) := by decide

theorem witness_StatusLayout :
    finalized.busy = false ∧ (absorbed abc).busy = false ∧ (pending 1 State.reset).busy = true ∧
      State.reset.faulted = false := by decide

theorem witness_RegisterReadback :
    State.reset.busy = false ∧ State.reset.st.phase = .uninit ∧ (absorbed abc).busy = false ∧
      (absorbed abc).st.phase ≠ .uninit ∧ finalized.st.phase ≠ .uninit ∧ (pending 1 (absorbed abc)).busy = true ∧
      HostReg.cmd ≠ .status ∧ HostReg.cmd ≠ .fault := by decide

theorem witness_ResetValues :
    let s := { stopped with hostMoves := [.reset, .wait], schedule := [.host] }
    s.hostMoves = .reset :: [.wait] ∧ s.schedule = .host :: [] := by decide

/-- Attaching while BUSY, attaching while idle, and a step that attaches. -/
theorem witness_SourceChangesOnlyByAttach :
    (pending 1 State.reset).busy = true ∧ finalized.busy = false ∧
      (⟨true, 3, abc⟩ : ByteSource).wf finalized.srcReliable = true ∧
      ∃ t, step { finalized with hostMoves := [.attach ⟨true, 3, abc⟩] } = .next t := ⟨rfl, rfl, by decide, _, rfl⟩

/-- Two engines, the second of which runs its pending INIT. -/
theorem witness_EnginesAreIndependent :
    ∃ after, stepEngine [finalized, pending 1 State.reset] 1 = .next after := ⟨_, rfl⟩

/-- A state with a digest, buffered nothing, has the invariant, and its host's turn is a step. -/
theorem witness_StepKeepsTheInvariant :
    Invariant { finalized with digest := packDigest (md5 abc) } ∧
      ∃ t, step { finalized with digest := packDigest (md5 abc) } = .next t := by
  refine ⟨⟨?_, ?_, ?_, ?_, ?_, ?_, ?_, ?_, ?_, ?_, ?_⟩, _, rfl⟩
  · intro h; cases h
  · intro h; cases h
  · intro _; rfl
  · intro _; rfl
  · intro h; cases h
  · intro _; exact ⟨abc, rfl⟩
  · intro h; cases h
  · intro h; cases h
  · intro h; cases h
  · exact .inl rfl
  · rfl

/-- A reset engine with INIT pending. -/
theorem witness_UnspecifiedStateIsNeverRead :
    (pending 1 State.reset).st.phase = .uninit ∧ ∃ t, step (pending 1 State.reset) = .next t := ⟨rfl, _, rfl⟩

end Sys2Proof.Tests
end

