-- ==== Sys2Proof/Proofs/FinalizeMdFive.lean ====
section
/-! SUPPORT. The digest primitive against the block-at-a-time MD5 of 00_scope.md R2: a state at a block boundary that
absorbs whole blocks has compressed them one by one, and FINALIZE's padding is the message's. -/

namespace Sys2Proof.Machine

/-- Absorbing whole blocks at a block boundary compresses them one after the other (40_digest.md R120). -/
theorem absorb_regs_of_wholeBlocks (st : DigestState) (s : List Byte) (n : Nat) (hst : bufCnt st = 0)
    (hs : s.length = 64 * n) :
    (absorb st s).regs = (pieces 64 s).foldl compress st.regs := by
  induction n generalizing st s with
  | zero =>
    obtain rfl : s = [] := List.length_eq_zero_iff.1 hs
    rfl
  | succ n ih =>
    have hlen : (s.take 64).length = 64 := by rw [List.length_take]; omega
    have hblock : (absorb st (s.take 64)).regs = compress st.regs (s.take 64) := by
      have h := absorb_block st (s.take 64) (by rw [hlen]; exact congrArg (· + 64) hst)
      rwa [show st.cnt.toNat % 64 = 0 from hst, List.take_zero, List.nil_append] at h
    have hboundary : bufCnt (absorb st (s.take 64)) = 0 := by rw [absorb_bufCnt, hst, hlen]
    have hne : s ≠ [] := List.ne_nil_of_length_pos (by omega)
    calc (absorb st s).regs
        = (absorb (absorb st (s.take 64)) (s.drop 64)).regs := by rw [← absorb_append, List.take_append_drop]
      _ = (pieces 64 (s.drop 64)).foldl compress (compress st.regs (s.take 64)) := by
        rw [ih _ _ hboundary (by rw [List.length_drop]; omega), hblock]
      _ = (pieces 64 s).foldl compress st.regs := by rw [pieces_step 64 (by decide) s hne, List.foldl_cons]

/-- FINALIZE's padding in terms of the number of bytes absorbed, past 2^64 of them too: the counter keeps the
length's low six bits and its bit length modulo 2^64 (40_digest.md R125). -/
theorem padding_ofNat (n : Nat) :
    padding (BitVec.ofNat 64 n) =
      [0x80] ++ fillBytes 0x00 ((119 - n % 64) % 64) ++ bytesLE64 (BitVec.ofNat 64 (8 * n)) := by
  have hmod : (BitVec.ofNat 64 n).toNat % 64 = n % 64 := by rw [BitVec.toNat_ofNat]; omega
  rw [padding, hmod, BitVec.ofNat_mul]
  rfl

end Sys2Proof.Machine

namespace Sys2Proof.Safety

open Sys2Proof.Machine

/-- What FINALIZE appends to an absorbed message is the message's own padding (40_digest.md R125). -/
theorem paddedMessage_eq (msg : List Byte) : paddedMessage msg = msg ++ padding (absorb initState msg).cnt := by
  have hcnt : (absorb initState msg).cnt = BitVec.ofNat 64 msg.length := by
    rw [absorb_cnt]; exact BitVec.zero_add _
  simp only [hcnt, padding_ofNat, paddedMessage, List.append_assoc]

/-- A padded message is a whole number of blocks. -/
theorem paddedMessage_length (msg : List Byte) :
    (paddedMessage msg).length = 64 * ((paddedMessage msg).length / 64) := by
  simp only [paddedMessage, List.length_append, List.length_singleton, fillBytes_length, bytesLE64_length]
  omega

/-- The byte-at-a-time digest of an absorbed message is its block-at-a-time MD5 (00_scope.md R2). -/
theorem finalDigest_absorb_initState (msg : List Byte) : finalDigest (absorb initState msg) = md5 msg := by
  have hregs := absorb_regs_of_wholeBlocks initState _ _ rfl (paddedMessage_length msg)
  rw [finalDigest, ← absorb_append, ← paddedMessage_eq, hregs]
  rfl

/-- FINALIZE in ABSORB completes, with the digest of the padded state (40_digest.md R131). -/
theorem exec_finalize_of_absorb {s : State} (h : s.st.phase = .absorb) :
    exec .finalize s =
      .next (complete (flagsFinalized { s with st := zeroed, digest := packDigest (finalDigest s.st) })) := by
  have hcheck : commandCheck .finalize s = none := by simp only [commandCheck, phaseCheck, h]
  rw [exec_eq_runCommand, hcheck]
  rfl

/-- Settles O17: the padded message is a whole number of blocks, and absorbing it byte by byte from INIT compresses
those blocks in order. -/
theorem finalizeGivesMdFive : Obligations.FinalizeGivesMdFive := by
  intro s msg hst
  have hphase : s.st.phase = .absorb := by rw [hst, absorb_phase]; rfl
  rw [exec_finalize_of_absorb hphase, hst, finalDigest_absorb_initState]
  rfl

end Sys2Proof.Safety
end

/-! SUPPORT. What a command and an attached source can do, said once: how `exec` ends, what no command's effect touches,
and when `attach` has a next state. -/

namespace Sys2Proof.Machine

/-- No check of a command names the code of "no fault" (60_exceptions.md R201, R202). -/
theorem commandCheck_ne_none {i : Instr} {s : State} {code : FaultCode} (h : commandCheck i s = some code) :
    code ≠ .none := by
  rintro rfl
  cases i <;> cases hp : s.st.phase <;> simp [commandCheck, updateCheck, phaseCheck, digestCheck, hp] at h

/-- The phase check passes in ABSORB alone (60_exceptions.md R202). -/
theorem phase_of_phaseCheck {s : State} (h : phaseCheck s = none) : s.st.phase = .absorb := by
  cases hp : s.st.phase <;> simp [phaseCheck, hp] at h ⊢

theorem phase_of_updateCheck {s : State} (h : updateCheck s = none) : s.st.phase = .absorb := by
  cases hc : phaseCheck s with
  | none => exact phase_of_phaseCheck hc
  | some code => simp [updateCheck, hc] at h

theorem digestValid_of_digestCheck {s : State} (h : digestCheck s = none) : s.digestValid = true := by
  simpa [digestCheck] using h

/-- A command ends in one of two ways: its first fault, or its effect completed (60_exceptions.md R200, R202). -/
theorem exec_cases (i : Instr) (s : State) :
    (∃ code, commandCheck i s = some code ∧ code ≠ .none ∧ exec i s = .next (raiseCommand code s)) ∨
      (commandCheck i s = none ∧ exec i s = .next (complete (commandEffect i s))) := by
  rw [exec_eq_runCommand]
  rcases runCommand_cases (commandCheck i s) (commandEffect i) s with ⟨code, hc, h⟩ | h
  · exact .inl ⟨code, hc, commandCheck_ne_none hc, h⟩
  · exact .inr h

/-- `t` differs from `s` at most where commands write: St, the results and their flags, and the draws. -/
def sameButResults (s t : State) : Prop :=
  t = { s with
    st := t.st
    digest := t.digest
    hex := t.hex
    consumed := t.consumed
    digestValid := t.digestValid
    hexValid := t.hexValid
    resNone := t.resNone
    draws := t.draws }

theorem sameButResults.trans {s t u : State} (hst : sameButResults s t) (htu : sameButResults t u) :
    sameButResults s u := by
  unfold sameButResults at *
  refine htu.trans ?_
  rw [hst]

theorem srcAfter_sameButResults (s : State) : sameButResults s (srcAfter s) := by
  unfold sameButResults
  rw [srcAfter_eq]

theorem rangeRead_sameButResults (o m : Nat) (s : State) : sameButResults s (rangeRead o m s) := by
  unfold sameButResults
  rw [rangeRead_eq]

theorem commitRead_sameButResults (padFor : Nat → List Byte) (k : Nat) (s : State) :
    sameButResults s (commitRead padFor k s) := by
  rcases commitRead_cases padFor k s with ⟨-, h⟩ | ⟨-, h⟩ <;> rw [h] <;> rfl

theorem hashWholeFile_sameButResults (padFor : Nat → List Byte) (s : State) :
    sameButResults s (hashWholeFile padFor s) :=
  (rangeRead_sameButResults 0 0 s).trans (commitRead_sameButResults padFor _ _)

/-- What the NES recipe can do: no result, before or after its header read, or the range read past an accepted header
(41_range_and_recipes.md R173). -/
theorem hashNes_cases (p : Params) (s : State) :
    hashNes p s = commitNone (setConsumed 0 s) ∨
      hashNes p s = commitNone (setConsumed 0 (srcAfter s)) ∨
      ∃ h, hashNes p s =
        commitRead (shortfall p.fillNes (nesWindow p h)) (rangeBytes (nesStart p h) (nesWindow p h) (srcAfter s)).length
          (rangeRead (nesStart p h) (nesWindow p h) (srcAfter s)) := by
  unfold hashNes
  split
  · split
    · exact .inr (.inr ⟨_, rfl⟩)
    · exact .inr (.inl rfl)
  · exact .inl rfl

theorem hashNes_sameButResults (p : Params) (s : State) : sameButResults s (hashNes p s) := by
  rcases hashNes_cases p s with h | h | ⟨hd, h⟩ <;> rw [h]
  · rfl
  · exact (srcAfter_sameButResults s).trans rfl
  · exact (srcAfter_sameButResults s).trans ((rangeRead_sameButResults _ _ _).trans (commitRead_sameButResults _ _ _))

/-- The frame of every command's effect (10_state.md R33 to R36, R46). -/
theorem commandEffect_sameButResults (i : Instr) (s : State) : sameButResults s (commandEffect i s) := by
  cases i with
  | init => rfl
  | update => rfl
  | pad fill => rfl
  | finalize => rfl
  | renderHex => rfl
  | digestRange => exact (rangeRead_sameButResults _ _ s).trans rfl
  | hashGeneric => exact hashWholeFile_sameButResults _ s
  | hashSnes => exact hashWholeFile_sameButResults _ s
  | hashGenesis => exact hashWholeFile_sameButResults _ s
  | hashNes => exact hashNes_sameButResults _ s

/-- A source is attached exactly when BUSY = 0 and it has the form of 10_state.md R36 (70_reset_and_hazards.md R248). -/
theorem hostAttach_eq_next_iff {src : ByteSource} {s t : State} :
    hostAttach src s = .next t ↔ s.busy = false ∧ src.wf s.srcReliable = true ∧ t = { s with src := src } := by
  unfold hostAttach
  cases s.busy <;> cases src.wf s.srcReliable <;> simp [eq_comm]

end Sys2Proof.Machine


/-! SUPPORT. The machine invariant (Safety.lean): each operation on the state keeps it, hence each command, each host
move and each step does. It says nothing about the operands, CONSUMED, the host side or the draws: where an operation
writes only those, `{ h with }` is the whole proof. -/

namespace Sys2Proof.Machine

/-- A list of registers holds four bytes a register (20_memory.md R70). -/
theorem unpackWords_length (ws : List Word) : (unpackWords ws).length = 4 * ws.length := by
  simp [unpackWords, List.length_flatMap, Nat.mul_comm]

end Sys2Proof.Machine

namespace Sys2Proof.Safety

open Sys2Proof.Machine

/-- Settles O58: nothing has been absorbed, digested, rendered or faulted. -/
theorem resetHasTheInvariant : Obligations.ResetHasTheInvariant where
  faultedIdle := nofun
  faultedCode := nofun
  unfaultedClear _ := rfl
  finalZero := nofun
  absorbed := nofun
  digestIsMd5 := nofun
  hexRenders := nofun
  noDigestZero _ := ⟨rfl, rfl, rfl⟩
  noneNoDigest := nofun
  hexRendered := .inl rfl
  sourceWf := reset_source_wf

section operations

variable {s : State} (h : Invariant s)
include h

theorem takeFault_keeps_invariant {code : FaultCode} (hcode : code ≠ .none) (opc offset : Byte) (write : Bool) :
    Invariant (takeFault code opc offset write s) :=
  { h with
    faultedIdle := fun _ => rfl
    faultedCode := fun _ => hcode
    unfaultedClear := nofun }

theorem complete_keeps_invariant : Invariant (complete s) :=
  { h with faultedIdle := fun _ => rfl }

theorem srcAfter_keeps_invariant : Invariant (srcAfter s) := by
  rw [srcAfter_eq]
  exact { h with }

/-- St may become any absorption of a message (10_state.md R25, R26). -/
theorem setSt_keeps_invariant {st : DigestState} (hst : ∃ msg, st = absorb initState msg) : Invariant (setSt st s) :=
  { h with
    finalZero := fun hp => by
      obtain ⟨msg, rfl⟩ := hst
      rw [setSt_st, absorb_phase] at hp
      cases hp
    absorbed := fun _ => hst }

theorem absorbInto_keeps_invariant (hp : s.st.phase = .absorb) (bytes : List Byte) :
    Invariant (absorbInto bytes s) := by
  obtain ⟨msg, hst⟩ := h.absorbed hp
  exact setSt_keeps_invariant h ⟨msg ++ bytes, by rw [hst, absorb_append]⟩

theorem rangeRead_keeps_invariant (o m : Nat) : Invariant (rangeRead o m s) := by
  rw [rangeRead_eq]
  exact { setSt_keeps_invariant h ⟨rangeBytes o m s, rfl⟩ with }

/-- In ABSORB the digest of St is the MD5 digest of a message (40_digest.md R125). -/
theorem finalDigest_isMd5 (hp : s.st.phase = .absorb) : ∃ msg, finalDigest s.st = md5 msg := by
  obtain ⟨msg, hst⟩ := h.absorbed hp
  exact ⟨msg, by rw [hst, finalDigest_absorb_initState]⟩

/-- FINALIZE's writes in ABSORB: a digest, not yet rendered, and St zero (40_digest.md R131, R137). -/
theorem finalize_keeps_invariant (hp : s.st.phase = .absorb) :
    Invariant (flagsFinalized { s with st := zeroState, digest := packDigest (finalDigest s.st) }) :=
  { h with
    finalZero := fun _ => rfl
    absorbed := nofun
    digestIsMd5 := fun _ => (finalDigest_isMd5 h hp).imp fun _ => congrArg packDigest
    hexRenders := nofun
    noDigestZero := nofun
    noneNoDigest := nofun }

/-- RENDER_HEX's writes when there is a digest (40_digest.md R132). -/
theorem renderHex_keeps_invariant (hd : s.digestValid = true) :
    Invariant (flagsRendered { s with hex := packHex (hexBytes (unpackWords s.digest.toList)) }) :=
  { h with
    hexRenders := fun _ => ⟨hd, rfl⟩
    noDigestZero := fun hd' => by cases hd.symm.trans hd'
    hexRendered := .inr ⟨_, by rw [unpackWords_length, Vector.length_toList], rfl⟩ }

/-- CommitSome in ABSORB: a digest and its rendering (41_range_and_recipes.md R163). -/
theorem commitSome_keeps_invariant (hp : s.st.phase = .absorb) : Invariant (commitSome s) :=
  { h with
    finalZero := fun _ => rfl
    absorbed := nofun
    digestIsMd5 := fun _ => (finalDigest_isMd5 h hp).imp fun _ => congrArg packDigest
    hexRenders := fun _ => ⟨rfl, by rw [commitSome_digest, finalDigest, unpack_packDigest]; rfl⟩
    noDigestZero := nofun
    noneNoDigest := nofun
    hexRendered := .inr ⟨_, finalDigest_length s.st, rfl⟩ }

/-- CommitNone, in any phase (41_range_and_recipes.md R163). -/
theorem commitNone_keeps_invariant : Invariant (commitNone s) :=
  { h with
    finalZero := fun _ => rfl
    absorbed := nofun
    digestIsMd5 := nofun
    hexRenders := nofun
    noDigestZero := fun _ => ⟨rfl, rfl, rfl⟩
    noneNoDigest := fun _ => rfl
    hexRendered := .inl rfl }

theorem setConsumed_keeps_invariant (k : Nat) : Invariant (setConsumed k s) :=
  { h with }

/-- A recipe's end after its range read (41_range_and_recipes.md R174). -/
theorem commitRead_rangeRead_keeps_invariant (padFor : Nat → List Byte) (k o m : Nat) :
    Invariant (commitRead padFor k (rangeRead o m s)) := by
  have hread := setConsumed_keeps_invariant (rangeRead_keeps_invariant h o m) k
  have hphase : (setConsumed k (rangeRead o m s)).st.phase = .absorb := absorb_phase initState (rangeBytes o m s)
  rcases commitRead_cases padFor k (rangeRead o m s) with ⟨-, hnone⟩ | ⟨-, hsome⟩
  · rw [hnone]
    exact commitNone_keeps_invariant hread
  · rw [hsome]
    exact commitSome_keeps_invariant (absorbInto_keeps_invariant hread hphase _)
      (by rw [absorbInto_st, absorb_phase]; exact hphase)

theorem hashWholeFile_keeps_invariant (padFor : Nat → List Byte) : Invariant (hashWholeFile padFor s) :=
  commitRead_rangeRead_keeps_invariant h padFor _ 0 0

theorem hashNes_keeps_invariant (p : Params) : Invariant (hashNes p s) := by
  rcases hashNes_cases p s with hr | hr | ⟨hd, hr⟩ <;> rw [hr]
  · exact commitNone_keeps_invariant (setConsumed_keeps_invariant h 0)
  · exact commitNone_keeps_invariant (setConsumed_keeps_invariant (srcAfter_keeps_invariant h) 0)
  · exact commitRead_rangeRead_keeps_invariant (srcAfter_keeps_invariant h) _ _ _ _

/-- A command's effect, its checks passed. -/
theorem commandEffect_keeps_invariant {i : Instr} (hcheck : commandCheck i s = none) :
    Invariant (commandEffect i s) := by
  cases i with
  | init => exact setSt_keeps_invariant h ⟨[], rfl⟩
  | update => exact absorbInto_keeps_invariant h (phase_of_updateCheck hcheck) _
  | pad fill => exact absorbInto_keeps_invariant h (phase_of_phaseCheck hcheck) _
  | finalize => exact finalize_keeps_invariant h (phase_of_phaseCheck hcheck)
  | renderHex => exact renderHex_keeps_invariant h (digestValid_of_digestCheck hcheck)
  | digestRange => exact setConsumed_keeps_invariant (rangeRead_keeps_invariant h _ _) _
  | hashGeneric => exact hashWholeFile_keeps_invariant h _
  | hashSnes => exact hashWholeFile_keeps_invariant h _
  | hashGenesis => exact hashWholeFile_keeps_invariant h _
  | hashNes => exact hashNes_keeps_invariant h _

theorem exec_keeps_invariant {i : Instr} {t : State} (hexec : exec i s = .next t) : Invariant t := by
  rcases exec_cases i s with ⟨code, -, hcode, hraise⟩ | ⟨hcheck, hdone⟩
  · cases hexec.symm.trans hraise
    exact takeFault_keeps_invariant h hcode _ _ _
  · cases hexec.symm.trans hdone
    exact complete_keeps_invariant (commandEffect_keeps_invariant h hcheck)

theorem engineTurn_keeps_invariant {t : State} (hturn : engineTurn s = .next t) : Invariant t := by
  rcases engineTurn_cases s with ⟨-, hidle⟩ | ⟨i, -, -, -, hexec⟩ | ⟨-, -, -, hill⟩
  · cases hturn.symm.trans hidle
    exact h
  · exact exec_keeps_invariant h (hexec.symm.trans hturn)
  · cases hturn.symm.trans hill
    exact takeFault_keeps_invariant h (by decide) _ _ _

/-- An accepted write starts a command at most on an engine that is not faulted (60_exceptions.md R203). -/
theorem writeReg_keeps_invariant (hf : s.faulted = false) (r : HostReg) (v : Word) : Invariant (writeReg r v s) := by
  cases r with
  | cmd => exact { h with faultedIdle := fun hf' => by cases hf.symm.trans hf' }
  | arg0 => exact { h with }
  | arg1 => exact { h with }
  | data n => exact { h with }
  | _ => exact h

theorem hostWrite_keeps_invariant (width : Nat) (offset : Byte) (v : Word) :
    Invariant (hostWrite width offset v s) := by
  have hraise {code : FaultCode} (hcode : code ≠ .none) : Invariant (raiseAccess code offset true s) :=
    takeFault_keeps_invariant h hcode _ _ _
  rcases hostWrite_cases width offset v s with
    ⟨-, hw⟩ | ⟨-, -, hw⟩ | ⟨r, -, -, -, hw⟩ | ⟨r, -, -, -, -, hw⟩ | ⟨r, hf, -, -, -, hw⟩ <;> rw [hw]
  · exact h
  · exact hraise (by decide)
  · exact hraise (by decide)
  · exact hraise (by decide)
  · exact writeReg_keeps_invariant h hf r v

theorem hostRead_keeps_invariant (width : Nat) (offset : Byte) : Invariant (hostRead width offset s) := by
  rcases hostRead_cases width offset s with ⟨r, -, hr⟩ | ⟨-, -, hr⟩ | ⟨-, -, hr⟩ <;> rw [hr]
  · rw [readAfter_eq]
    exact { h with }
  · exact { h with }
  · exact { takeFault_keeps_invariant h (code := .busAccess) (by decide) 0 offset false with }

theorem hostWait_keeps_invariant : Invariant (hostWait s) := by
  have hread := hostRead_keeps_invariant h 32 (regOffset .status)
  unfold hostWait
  split
  · exact { hread with }
  · exact hread

theorem hostAttach_keeps_invariant {src : ByteSource} {t : State} (hattach : hostAttach src s = .next t) :
    Invariant t := by
  obtain ⟨-, hwf, rfl⟩ := hostAttach_eq_next_iff.1 hattach
  exact { h with sourceWf := hwf }

theorem applyReset_keeps_invariant : Invariant (applyReset s) :=
  { resetHasTheInvariant with sourceWf := h.sourceWf }

theorem hostMove_keeps_invariant {m : HostMove} {t : State} (hmove : hostMove m s = .next t) : Invariant t := by
  cases m with
  | read width offset =>
    cases hmove
    exact hostRead_keeps_invariant h width offset
  | write width offset v =>
    cases hmove
    exact hostWrite_keeps_invariant h width offset v
  | wait =>
    cases hmove
    exact hostWait_keeps_invariant h
  | attach src => exact hostAttach_keeps_invariant h hmove
  | reset =>
    cases hmove
    exact applyReset_keeps_invariant h

theorem hostTurn_keeps_invariant {t : State} (hturn : hostTurn s = .next t) : Invariant t := by
  unfold hostTurn at hturn
  split at hturn
  · cases hturn
    exact h
  · refine hostMove_keeps_invariant ?_ hturn
    exact { h with }

end operations

/-- Settles O59: whoever's turn it is, each operation of the turn keeps the invariant. -/
theorem stepKeepsTheInvariant : Obligations.StepKeepsTheInvariant := by
  intro s t h hstep
  obtain ⟨agent, turns, hturn, -⟩ := step_cases s
  have hs : Invariant { s with schedule := turns } := { h with }
  rw [hturn] at hstep
  cases agent with
  | engine => exact engineTurn_keeps_invariant hs hstep
  | host => exact hostTurn_keeps_invariant hs hstep

end Sys2Proof.Safety


/-! SUPPORT. The command's turn and its frame: how BUSY, the inputs and the flags stand after it (10_state.md R32, R33,
R47). -/

namespace Sys2Proof.Machine

/-- With a command pending and no schedule, the step is the engine's turn (log entry 2). -/
theorem step_of_pending {s : State} (hschedule : s.schedule = []) (hbusy : s.busy = true) :
    step s = engineTurn s := by
  simp only [step, nextTurn, hschedule, defaultAgent, hbusy, if_true, agentTurn]

/-- A recipe's end shows its two outcomes in the flags alone (41_range_and_recipes.md R163). -/
def recipeFlags (s : State) : Prop :=
  s.st.phase = .final ∧ s.digestValid = s.hexValid ∧ s.resNone = !s.digestValid

theorem commitRead_recipeFlags (padFor : Nat → List Byte) (k : Nat) (s : State) :
    recipeFlags (commitRead padFor k s) := by
  rcases commitRead_cases padFor k s with ⟨-, h⟩ | ⟨-, h⟩ <;> rw [h] <;> exact ⟨rfl, rfl, rfl⟩

theorem hashWholeFile_recipeFlags (padFor : Nat → List Byte) (s : State) : recipeFlags (hashWholeFile padFor s) :=
  commitRead_recipeFlags padFor _ _

theorem hashNes_recipeFlags (p : Params) (s : State) : recipeFlags (hashNes p s) := by
  rcases hashNes_cases p s with h | h | ⟨hd, h⟩ <;> rw [h]
  · exact ⟨rfl, rfl, rfl⟩
  · exact ⟨rfl, rfl, rfl⟩
  · exact commitRead_recipeFlags _ _ _

/-- Every recipe command leaves such flags (10_state.md R47). -/
theorem commandEffect_recipeFlags {i : Instr} (hi : Safety.isRecipe i = true) (s : State) :
    recipeFlags (commandEffect i s) := by
  cases i with
  | hashGeneric => exact hashWholeFile_recipeFlags _ s
  | hashSnes => exact hashWholeFile_recipeFlags _ s
  | hashGenesis => exact hashWholeFile_recipeFlags _ s
  | hashNes => exact hashNes_recipeFlags _ s
  | _ => cases hi

/-- A host write to CMD on an idle engine is accepted: it latches the word and starts it (10_state.md R32). -/
theorem hostWrite_cmd {s : State} (hf : s.faulted = false) (hb : s.busy = false) (v : Word) :
    hostWrite 32 0x00 v s = { s with cmd := v, busy := true } := by
  have htarget : accessTarget 32 0x00 = some .cmd := accessTarget_regOffset .cmd
  simp only [hostWrite, hf, htarget, regWritable, hb, writeReg, if_true, Bool.false_eq_true, if_false]

end Sys2Proof.Machine

namespace Sys2Proof.Safety

open Sys2Proof.Machine

theorem sameInputs_of_sameButResults {s t : State} (h : sameButResults s t) : sameInputs s t := by
  unfold sameButResults at h
  rw [h]
  exact ⟨rfl, rfl, rfl, rfl, rfl, rfl, rfl, rfl, rfl, rfl⟩

/-- A command always ends in a next state (60_exceptions.md R200). -/
theorem exec_next (i : Instr) (s : State) : ∃ t, exec i s = .next t := by
  rcases exec_cases i s with ⟨_, -, -, h⟩ | ⟨-, h⟩ <;> exact ⟨_, h⟩

theorem exec_busy {i : Instr} {s t : State} (h : exec i s = .next t) : t.busy = false := by
  rcases exec_cases i s with ⟨code, -, -, hraise⟩ | ⟨-, hdone⟩
  · cases h.symm.trans hraise
    rfl
  · cases h.symm.trans hdone
    rfl

theorem exec_sameInputs {i : Instr} {s t : State} (h : exec i s = .next t) : sameInputs s t := by
  rcases exec_cases i s with ⟨code, -, -, hraise⟩ | ⟨-, hdone⟩
  · cases h.symm.trans hraise
    exact ⟨rfl, rfl, rfl, rfl, rfl, rfl, rfl, rfl, rfl, rfl⟩
  · cases h.symm.trans hdone
    show sameInputs s (commandEffect i s)
    exact sameInputs_of_sameButResults (commandEffect_sameButResults i s)

/-- Settles O34: a fault entry writes no input, and neither does any command's effect. -/
theorem commandsKeepInputs : Obligations.CommandsKeepInputs := by
  intro i s t h
  obtain ⟨-, -, -, -, hsrc, -⟩ := exec_sameInputs h
  exact ⟨exec_sameInputs h, exec_busy h, fun a => by rw [hsrc]⟩

/-- Settles O7: the write latches the word, and the next step is the engine's turn on it. -/
theorem pendingCommandEndsInOneStep : Obligations.PendingCommandEndsInOneStep := by
  refine ⟨fun s v hb hf => hostWrite_cmd hf hb v, fun s hschedule hb hf => ?_⟩
  rw [step_of_pending hschedule hb]
  rcases engineTurn_cases s with ⟨hidle, -⟩ | ⟨i, -, -, hd, hturn⟩ | ⟨-, -, hd, hturn⟩
  · simp [hb, hf] at hidle
  · obtain ⟨t, ht⟩ := exec_next i s
    rw [hturn, hd]
    exact ⟨t, ht, exec_busy ht, ht⟩
  · rw [hturn, hd]
    exact ⟨_, rfl, rfl, rfl⟩

/-- Settles O16: packing FINALIZE's digest bytes gives the padded state's round registers back. -/
theorem digestIsFinalRegisters : Obligations.DigestIsFinalRegisters := by
  intro s t hp h
  cases h.symm.trans (exec_finalize_of_absorb hp)
  exact packDigest_regsBytes _

end Sys2Proof.Safety


/-! SUPPORT. The status flags: what a step that takes a fault changes, and every other write of them (10_state.md R47;
60_exceptions.md R204). -/

namespace Sys2Proof.Machine

/-- `t` is `s` after a fault entry (60_exceptions.md R204), but for the host's side. -/
def faultEntered (s t : State) : Prop :=
  ∃ fault : FaultInfo, fault.code ≠ .none ∧
    t = { s with
      fault := fault
      faulted := true
      busy := false
      hostMoves := t.hostMoves
      schedule := t.schedule
      recorded := t.recorded }

theorem takeFault_faultEntered {code : FaultCode} (hcode : code ≠ .none) (opc offset : Byte) (write : Bool)
    (s : State) :
    faultEntered s (takeFault code opc offset write s) :=
  ⟨⟨code, opc, offset, write⟩, hcode, rfl⟩

@[simp] theorem commandEffect_faulted (i : Instr) (s : State) : (commandEffect i s).faulted = s.faulted := by
  rw [commandEffect_sameButResults i s]

@[simp] theorem readAfter_faulted (r : HostReg) (s : State) : (readAfter r s).faulted = s.faulted := by
  rw [readAfter_eq]

@[simp] theorem writeReg_faulted (r : HostReg) (v : Word) (s : State) : (writeReg r v s).faulted = s.faulted := by
  cases r <;> rfl

/-- An aligned read of a register raises nothing (60_exceptions.md R203). -/
theorem hostRead_reg (r : HostReg) (s : State) :
    hostRead 32 (regOffset r) s = recordRead 32 (regOffset r) ((readValue r s).setWidth 32) (readAfter r s) := by
  simp only [hostRead, accessTarget_regOffset]

@[simp] theorem hostWait_faulted (s : State) : (hostWait s).faulted = s.faulted := by
  have hread : (hostRead 32 (regOffset .status) s).faulted = s.faulted := by
    rw [hostRead_reg, recordRead_faulted, readAfter_faulted]
  unfold hostWait
  split <;> exact hread

section faults

variable {s t : State} (hf : s.faulted = false) (ht : t.faulted = true)
include hf ht

theorem exec_faultEntered {i : Instr} (h : exec i s = .next t) : faultEntered s t := by
  rcases exec_cases i s with ⟨code, -, hcode, hraise⟩ | ⟨-, hdone⟩
  · cases h.symm.trans hraise
    exact takeFault_faultEntered hcode _ _ _ s
  · cases h.symm.trans hdone
    simp [hf] at ht

theorem engineTurn_faultEntered (h : engineTurn s = .next t) : faultEntered s t := by
  rcases engineTurn_cases s with ⟨-, hidle⟩ | ⟨i, -, -, -, hexec⟩ | ⟨-, -, -, hill⟩
  · cases h.symm.trans hidle
    simp [hf] at ht
  · exact exec_faultEntered hf ht (hexec.symm.trans h)
  · cases h.symm.trans hill
    exact takeFault_faultEntered (by decide) _ _ _ s

theorem hostWrite_faultEntered {width : Nat} {offset : Byte} {v : Word} (h : hostWrite width offset v s = t) :
    faultEntered s t := by
  subst h
  rcases hostWrite_cases width offset v s with
    ⟨hf', -⟩ | ⟨-, -, hw⟩ | ⟨r, -, -, -, hw⟩ | ⟨r, -, -, -, -, hw⟩ | ⟨r, -, -, -, -, hw⟩
  · cases hf.symm.trans hf'
  · rw [hw]
    exact takeFault_faultEntered (by decide) _ _ _ s
  · rw [hw]
    exact takeFault_faultEntered (by decide) _ _ _ s
  · rw [hw]
    exact takeFault_faultEntered (by decide) _ _ _ s
  · simp [hw, hf] at ht

theorem hostRead_faultEntered {width : Nat} {offset : Byte} (h : hostRead width offset s = t) : faultEntered s t := by
  subst h
  rcases hostRead_cases width offset s with ⟨r, -, hr⟩ | ⟨-, hf', -⟩ | ⟨-, -, hr⟩
  · simp [hr, hf] at ht
  · cases hf.symm.trans hf'
  · rw [hr]
    exact ⟨⟨.busAccess, 0, offset, false⟩, nofun, rfl⟩

theorem hostMove_faultEntered {m : HostMove} (h : hostMove m s = .next t) : faultEntered s t := by
  cases m with
  | read width offset => exact hostRead_faultEntered hf ht (Host.Outcome.next.inj h)
  | write width offset v => exact hostWrite_faultEntered hf ht (Host.Outcome.next.inj h)
  | wait =>
    cases h
    simp [hf] at ht
  | attach src =>
    obtain ⟨-, -, rfl⟩ := hostAttach_eq_next_iff.1 h
    cases hf.symm.trans ht
  | reset =>
    cases h
    cases ht

theorem hostTurn_faultEntered (h : hostTurn s = .next t) : faultEntered s t := by
  unfold hostTurn at h
  split at h
  · cases h
    cases hf.symm.trans ht
  · next m rest _ => exact hostMove_faultEntered (s := { s with hostMoves := rest }) hf ht h

/-- Whatever step takes a fault, it is a fault entry (60_exceptions.md R204). -/
theorem step_faultEntered (h : step s = .next t) : faultEntered s t := by
  obtain ⟨agent, turns, hturn, -⟩ := step_cases s
  rw [hturn] at h
  cases agent with
  | engine => exact engineTurn_faultEntered (s := { s with schedule := turns }) hf ht h
  | host => exact hostTurn_faultEntered (s := { s with schedule := turns }) hf ht h

end faults

end Sys2Proof.Machine

namespace Sys2Proof.Safety

open Sys2Proof.Machine

/-- Settles O40: reset and the accepted write by their definitions, a command by its effect, a fault by the fault
entry. -/
theorem flagWriteTable : Obligations.FlagWriteTable := by
  refine ⟨fun s => ⟨rfl, rfl, rfl, rfl, rfl, rfl⟩, fun s v hf hb => ?_, fun i s t hf h ht => ⟨exec_busy h, ?_⟩,
    fun s t hf h ht => ?_⟩
  · rw [hostWrite_cmd hf hb]
    exact ⟨rfl, rfl, rfl, rfl, rfl, rfl⟩
  · rcases exec_cases i s with ⟨code, -, -, hraise⟩ | ⟨hcheck, hdone⟩
    · cases h.symm.trans hraise
      cases ht
    · cases h.symm.trans hdone
      cases i with
      | init => exact ⟨rfl, rfl, rfl, rfl⟩
      | update =>
        have hp := phase_of_updateCheck hcheck
        exact ⟨(absorb_phase _ _).trans hp, hp, rfl, rfl, rfl⟩
      | pad fill =>
        have hp := phase_of_phaseCheck hcheck
        exact ⟨(absorb_phase _ _).trans hp, hp, rfl, rfl, rfl⟩
      | finalize => exact ⟨rfl, rfl, rfl, rfl⟩
      | renderHex =>
        have hd := digestValid_of_digestCheck hcheck
        exact ⟨rfl, hd, hd, rfl, rfl⟩
      | digestRange =>
        have hphase := absorb_phase initState (rangeBytes (offsetOperand s) (maxLenOperand s) s)
        have hread := rangeRead_eq (offsetOperand s) (maxLenOperand s) s
        simp only [commandEffect]
        rw [hread]
        exact ⟨hphase, rfl, rfl, rfl⟩
      | hashGeneric => exact commandEffect_recipeFlags (i := .hashGeneric) rfl s
      | hashSnes => exact commandEffect_recipeFlags (i := .hashSnes) rfl s
      | hashGenesis => exact commandEffect_recipeFlags (i := .hashGenesis) rfl s
      | hashNes => exact commandEffect_recipeFlags (i := .hashNes) rfl s
  · obtain ⟨fault, -, hfault⟩ := step_faultEntered hf ht h
    rw [hfault]
    exact ⟨rfl, rfl, rfl, rfl, rfl⟩

end Sys2Proof.Safety


/-! SUPPORT. The register map and the accesses it refuses (10_state.md R37, R44). -/

namespace Sys2Proof.Machine

/-- A register stands at its offset (10_state.md R37). -/
theorem regAt_regOffset (r : HostReg) : regAt (regOffset r) = some r := by
  have h := accessTarget_regOffset r
  unfold accessTarget at h
  split at h
  · exact h
  · cases h

/-- A register stands at no other offset (10_state.md R37). -/
theorem regOffset_of_regAt {o : Byte} {r : HostReg} (h : regAt o = some r) : o = regOffset r := by
  have hfound := List.find?_some h
  exact (beq_iff_eq.1 hfound).symm

/-- The offsets of no register, over all 256 (10_state.md R37, R44; 20_memory.md R62). -/
theorem regAt_isNone : ∀ o : Byte, (regAt o).isNone = (o.toNat % 4 != 0 || Safety.reservedOffset o.toNat) := by
  decide +kernel

theorem regWritable_iff (r : HostReg) :
    regWritable r = true ↔ r = .cmd ∨ r = .arg0 ∨ r = .arg1 ∨ ∃ n, r = .data n := by
  cases r <;> simp [regWritable]

/-- A reserved offset is no access target, whatever the width (10_state.md R44). -/
theorem accessTarget_of_reserved {o : Byte} (h : Safety.reservedOffset o.toNat = true) (width : Nat) :
    accessTarget width o = none := by
  have hnone : regAt o = none := by
    rw [← Option.isNone_iff_eq_none, regAt_isNone, h, Bool.or_true]
  unfold accessTarget
  split
  · exact hnone
  · rfl

theorem hostWrite_of_noTarget {width : Nat} {o : Byte} {s : State} (ht : accessTarget width o = none)
    (hf : s.faulted = false) (v : Word) :
    hostWrite width o v s = raiseAccess .busAccess o true s := by
  simp only [hostWrite, hf, ht, Bool.false_eq_true, if_false]

theorem hostWrite_of_readOnly {r : HostReg} {s : State} (hr : regWritable r = false) (hf : s.faulted = false)
    (v : Word) :
    hostWrite 32 (regOffset r) v s = raiseAccess .busAccess (regOffset r) true s := by
  simp only [hostWrite, hf, accessTarget_regOffset, hr, Bool.false_eq_true, if_false]

theorem hostRead_of_noTarget {width : Nat} {o : Byte} {s : State} (ht : accessTarget width o = none)
    (hf : s.faulted = false) :
    hostRead width o s = recordRead width o 0 (raiseAccess .busAccess o false s) := by
  simp only [hostRead, hf, ht, Bool.false_eq_true, if_false]

end Sys2Proof.Machine

namespace Sys2Proof.Safety

open Sys2Proof.Machine

/-- Settles O44: a register and its offset determine each other, and a search of the map finds none elsewhere. -/
theorem registerMapIsExact : Obligations.RegisterMapIsExact := by
  refine ⟨?_, regWritable_iff, regAt_regOffset, fun _ _ => regOffset_of_regAt, regAt_isNone⟩
  exact ⟨regAt_regOffset .cmd, regAt_regOffset .status, regAt_regOffset .fault, regAt_regOffset .arg0,
    regAt_regOffset .arg1, regAt_regOffset .consumedLo, regAt_regOffset .consumedHi, regAt_regOffset .stA,
    regAt_regOffset .stB, regAt_regOffset .stC, regAt_regOffset .stD, regAt_regOffset .cntLo,
    regAt_regOffset .cntHi, by decide, by decide, by decide⟩

/-- Settles O45: a reserved offset is no access target. -/
theorem reservedOffsetFaults : Obligations.ReservedOffsetFaults := by
  intro s width o v hf ho
  have ht := accessTarget_of_reserved ho width
  exact ⟨hostWrite_of_noTarget ht hf v, hostRead_of_noTarget ht hf⟩

end Sys2Proof.Safety

/-! SUPPORT. The fields of STATUS and FAULT, the window's bytes and the readbacks (10_state.md R34, R38 to R43). -/

namespace Sys2Proof.Machine

/-- The bytes of packed registers, least significant first (20_memory.md R70). -/
theorem unpackWords_getElem? (ws : List Word) (i : Nat) :
    (unpackWords ws)[i]? = ws[i / 4]?.map fun w => w.extractLsb' (8 * (i % 4)) 8 := by
  induction ws generalizing i with
  | nil => simp [unpackWords]
  | cons w ws ih =>
    have hcons : unpackWords (w :: ws) = bytesLE32 w ++ unpackWords ws := rfl
    rw [hcons]
    rcases Nat.lt_or_ge i 4 with hi | hi
    · rw [List.getElem?_append_left hi, Nat.div_eq_of_lt hi, Nat.mod_eq_of_lt hi]
      interval_cases i <;> rfl
    · rw [List.getElem?_append_right hi, bytesLE32_length, ih]
      obtain ⟨j, rfl⟩ := Nat.exists_eq_add_of_le' hi
      simp

section packStatus

variable (bufCount : BitVec 6) (faulted resNone hexValid digestValid : BitVec 1) (phase : BitVec 2) (busy : BitVec 1)

theorem packStatus_busy (b : Bool) :
    (packStatus bufCount faulted resNone hexValid digestValid phase (.ofBool b)).getLsbD 0 = b := by
  simp [packStatus]

theorem packStatus_phase :
    (packStatus bufCount faulted resNone hexValid digestValid phase busy).extractLsb' 1 2 = phase := by
  ext i hi
  interval_cases i <;> simp [packStatus]

theorem packStatus_digestValid (b : Bool) :
    (packStatus bufCount faulted resNone hexValid (.ofBool b) phase busy).getLsbD 3 = b := by
  simp [packStatus]

theorem packStatus_hexValid (b : Bool) :
    (packStatus bufCount faulted resNone (.ofBool b) digestValid phase busy).getLsbD 4 = b := by
  simp [packStatus]

theorem packStatus_resNone (b : Bool) :
    (packStatus bufCount faulted (.ofBool b) hexValid digestValid phase busy).getLsbD 5 = b := by
  simp [packStatus]

theorem packStatus_faulted (b : Bool) :
    (packStatus bufCount (.ofBool b) resNone hexValid digestValid phase busy).getLsbD 6 = b := by
  simp [packStatus]

theorem packStatus_reserved_7 :
    (packStatus bufCount faulted resNone hexValid digestValid phase busy).getLsbD 7 = false := by
  simp [packStatus]

theorem packStatus_bufCount :
    (packStatus bufCount faulted resNone hexValid digestValid phase busy).extractLsb' 8 6 = bufCount := by
  ext i hi
  interval_cases i <;> simp [packStatus]

theorem packStatus_reserved_31_14 :
    (packStatus bufCount faulted resNone hexValid digestValid phase busy).extractLsb' 14 18 = 0 := by
  ext i hi
  simp (disch := omega) [packStatus, BitVec.getLsbD_of_ge]

end packStatus

section faultWord

variable (f : FaultInfo)

theorem faultWord_code : (faultWord f).extractLsb' 0 4 = faultCodeBits f.code := by
  ext i hi
  interval_cases i <;> simp [faultWord]

theorem faultWord_reserved_7_4 : (faultWord f).extractLsb' 4 4 = 0 := by
  ext i hi
  interval_cases i <;> simp [faultWord]

theorem faultWord_cmdOpc : (faultWord f).extractLsb' 8 8 = f.cmdOpc := by
  ext i hi
  interval_cases i <;> simp [faultWord]

theorem faultWord_offset : (faultWord f).extractLsb' 16 8 = f.offset := by
  ext i hi
  interval_cases i <;> simp [faultWord]

theorem faultWord_write : (faultWord f).getLsbD 24 = f.write := by
  simp [faultWord]

theorem faultWord_reserved_31_25 : (faultWord f).extractLsb' 25 7 = 0 := by
  ext i hi
  interval_cases i <;> simp [faultWord]

end faultWord

/-- BUF_CNT as STATUS shows it (10_state.md R38). -/
theorem bufCntField_toNat (st : DigestState) :
    (bufCntField st).toNat = if st.phase = .absorb then st.cnt.toNat % 64 else 0 := by
  cases hp : st.phase <;> simp [bufCntField, hp, bufCnt]

/-- CODE as FAULT shows it (60_exceptions.md R201). -/
theorem faultCodeBits_toNat (code : FaultCode) :
    (faultCodeBits code).toNat = match code with
      | .none => 0 | .illegalCmd => 1 | .notInit => 2 | .finalized => 3 | .badLen => 4 | .noDigest => 5
      | .busyWrite => 6 | .busAccess => 7 := by
  cases code <;> rfl

/-- A 64-bit value is its two halves (10_state.md R29, R41). -/
theorem halves_toNat (v : DWord) :
    (v.extractLsb' 32 32).toNat * 2 ^ 32 + (v.extractLsb' 0 32).toNat = v.toNat := by
  have hv := v.isLt
  simp only [BitVec.extractLsb'_toNat, Nat.shiftRight_eq_div_pow]
  omega

/-- A read that is no draw returns what the register holds. -/
theorem readValue_of_not_draw {r : HostReg} {s : State} (h : readIsDraw r s = false) : readValue r s = regValue r s := by
  simp [readValue, h]

/-- A read of a register other than STATUS that is a draw returns the next free value. -/
theorem readValue_of_draw {r : HostReg} {s : State} (h : readIsDraw r s = true) (hr : r ≠ .status) :
    readValue r s = Config.freeBits s.draws 32 := by
  simp [readValue, h, hr]

theorem readAfter_of_draw {r : HostReg} {s : State} (h : readIsDraw r s = true) : readAfter r s = drawOne s := by
  simp [readAfter, h]

theorem readAfter_of_not_draw {r : HostReg} {s : State} (h : readIsDraw r s = false) : readAfter r s = s := by
  simp [readAfter, h]

/-- Between commands the draws are the digest-state readbacks in UNINIT (10_state.md R40, R41). -/
theorem readIsDraw_of_idle {s : State} (hb : s.busy = false) (r : HostReg) :
    readIsDraw r s = (readsDigestState r && s.st.phase == .uninit) := by
  simp [readIsDraw, hb]

/-- While BUSY = 1 every register but FAULT is a draw (70_reset_and_hazards.md R244). -/
theorem readIsDraw_of_busy {s : State} (hb : s.busy = true) (r : HostReg) : readIsDraw r s = (r != .fault) := by
  simp [readIsDraw, hb]

/-- In UNINIT every readback of St is a draw, busy or not (10_state.md R40, R41). -/
theorem readIsDraw_of_uninit {s : State} {r : HostReg} (hp : s.st.phase = .uninit) (hr : readsDigestState r = true) :
    readIsDraw r s = true := by
  cases hb : s.busy with
  | false =>
    rw [readIsDraw_of_idle hb, hr, hp]
    rfl
  | true =>
    rw [readIsDraw_of_busy hb, bne_iff_ne]
    rintro rfl
    cases hr

/-- A read of FAULT is never a draw (70_reset_and_hazards.md R244). -/
theorem readIsDraw_fault (s : State) : readIsDraw .fault s = false := by
  unfold readIsDraw
  split <;> rfl

end Sys2Proof.Machine

namespace Sys2Proof.Safety

open Sys2Proof.Machine

/-- Settles O13: the window is the bytes of its registers, four a register. -/
theorem windowIsLittleEndian : Obligations.WindowIsLittleEndian := by
  intro s i hi
  have hreg : s.data.toList[i / 4]? = some s.data[i / 4] := by
    rw [Vector.getElem?_toList]
    exact Vector.getElem?_eq_getElem (by omega)
  rw [window, unpackWords_getElem?, hreg]
  rfl

/-- Settles O53: a read of FAULT is never a draw, so it returns the word packed from FAULT's fields. -/
theorem faultLayout : Obligations.FaultLayout := by
  intro s w
  have hw : w = faultWord s.fault := readValue_of_not_draw (readIsDraw_fault s)
  rw [hw, faultWord_code, faultCodeBits_toNat]
  exact ⟨rfl, faultWord_reserved_7_4 _, faultWord_cmdOpc _, faultWord_offset _, faultWord_write _,
    faultWord_reserved_31_25 _⟩

/-- A read of STATUS between commands (10_state.md R38). -/
theorem readValue_status_of_idle {s : State} (hb : s.busy = false) : readValue .status s = statusWord s :=
  readValue_of_not_draw (readIsDraw_of_idle hb .status)

/-- A read of STATUS while BUSY = 1 (10_state.md R38; 70_reset_and_hazards.md R244). -/
theorem readValue_status_of_busy {s : State} (hb : s.busy = true) :
    readValue .status s = statusWordBusy (Config.freeBits s.draws 32) s := by
  simp [readValue, readIsDraw_of_busy hb]

/-- Settles O52: STATUS is packed from the flags, between commands all of them, while BUSY = 1 BUSY and FAULTED. -/
theorem statusLayout : Obligations.StatusLayout := by
  refine ⟨fun s hb => ?_, fun s hb => ?_, fun s v hf => hostWrite_of_readOnly (r := .status) rfl hf v⟩
  · intro w
    have hw : w = statusWord s := readValue_status_of_idle hb
    rw [hw, statusWord, packStatus_busy, packStatus_phase, packStatus_digestValid, packStatus_hexValid,
      packStatus_resNone, packStatus_faulted, packStatus_bufCount, bufCntField_toNat]
    refine ⟨hb, ?_, rfl, rfl, rfl, rfl, packStatus_reserved_7 .., rfl, packStatus_reserved_31_14 ..⟩
    cases s.st.phase <;> rfl
  · rw [readValue_status_of_busy hb, statusWordBusy, packStatus_busy, packStatus_faulted]
    exact ⟨hb, rfl⟩

/-- Settles O54: which reads are draws, and what the others hold. -/
theorem registerReadback : Obligations.RegisterReadback := by
  refine ⟨fun s hb => ⟨?_, fun hp => ?_, fun hp r hr => ?_⟩,
    fun s hb => ⟨fun r hstatus hfault => ?_, ?_, readAfter_of_not_draw (readIsDraw_fault s)⟩⟩
  · have hread {r : HostReg} (hr : readsDigestState r = false) : readValue r s = regValue r s :=
      readValue_of_not_draw (by rw [readIsDraw_of_idle hb, hr, Bool.false_and])
    refine ⟨?_, hread rfl, hread rfl, hread rfl, fun _ => hread rfl, fun _ => hread rfl, fun _ => hread rfl⟩
    rw [hread rfl, hread rfl]
    exact halves_toNat s.consumed
  · have hread (r : HostReg) : readValue r s = regValue r s :=
      readValue_of_not_draw (by rw [readIsDraw_of_idle hb, beq_false_of_ne hp, Bool.and_false])
    refine ⟨hread _, hread _, hread _, hread _, ?_⟩
    rw [hread, hread]
    exact halves_toNat s.st.cnt
  · obtain ⟨hstate, hstatus⟩ : readsDigestState r = true ∧ r ≠ .status := by
      fin_cases hr <;> exact ⟨rfl, by decide⟩
    have hdraw := readIsDraw_of_uninit hp hstate
    exact ⟨readValue_of_draw hdraw hstatus, by rw [readAfter_of_draw hdraw, drawOne_draws]⟩
  · have hdraw : readIsDraw r s = true := by rw [readIsDraw_of_busy hb]; exact bne_iff_ne.2 hfault
    exact ⟨readValue_of_draw hdraw hstatus, by rw [readAfter_of_draw hdraw, drawOne_draws]⟩
  · exact readValue_of_not_draw (readIsDraw_fault s)

end Sys2Proof.Safety


/-! SUPPORT. What reset leaves unspecified in St (10_state.md R45): in UNINIT each operation that reads the state acts on
a state with another such St as on the state itself, and every command that then completes writes all of St or none. -/

namespace Sys2Proof.Machine

section operations

variable (st : DigestState) (s : State)

theorem srcAfter_setSt : srcAfter (setSt st s) = setSt st (srcAfter s) := by
  unfold srcAfter
  rw [setSt_srcReliable]
  split <;> rfl

/-- RangeRead writes all of St and reads none of it (41_range_and_recipes.md R160). -/
theorem rangeRead_setSt (o m : Nat) : rangeRead o m (setSt st s) = rangeRead o m s := by
  unfold rangeRead
  rw [setSt_src, srcAfter_setSt]
  split <;> rfl

theorem hashWholeFile_setSt (padFor : Nat → List Byte) :
    hashWholeFile padFor (setSt st s) = hashWholeFile padFor s := by
  unfold hashWholeFile
  rw [rangeRead_setSt]
  rfl

theorem nesBody_setSt (p : Params) (h : List Byte) : nesBody p h (setSt st s) = nesBody p h s := by
  unfold nesBody
  rw [rangeRead_setSt]
  rfl

theorem hashNes_setSt (p : Params) : hashNes p (setSt st s) = hashNes p s := by
  have hheader : srcBytes (setSt st s) 0 p.nesHeaderLen = srcBytes s 0 p.nesHeaderLen := rfl
  unfold hashNes
  rw [setSt_src, srcAfter_setSt, hheader, nesBody_setSt]
  rfl

theorem writeReg_setSt (r : HostReg) (v : Word) : writeReg r v (setSt st s) = setSt st (writeReg r v s) := by
  cases r <;> rfl

theorem hostWrite_setSt (width : Nat) (offset : Byte) (v : Word) :
    hostWrite width offset v (setSt st s) = setSt st (hostWrite width offset v s) := by
  unfold hostWrite
  rw [setSt_faulted, setSt_busy]
  split
  · rfl
  · split
    · rfl
    · split
      · split
        · rfl
        · exact writeReg_setSt st s _ v
      · rfl

end operations

/-! No host access writes St (20_memory.md R63, R81). -/

@[simp] theorem readAfter_st (r : HostReg) (s : State) : (readAfter r s).st = s.st := by
  rw [readAfter_eq]

@[simp] theorem writeReg_st (r : HostReg) (v : Word) (s : State) : (writeReg r v s).st = s.st := by
  cases r <;> rfl

@[simp] theorem hostRead_st (width : Nat) (offset : Byte) (s : State) : (hostRead width offset s).st = s.st := by
  rcases hostRead_cases width offset s with ⟨r, -, hr⟩ | ⟨-, -, hr⟩ | ⟨-, -, hr⟩ <;> simp [hr]

@[simp] theorem hostWrite_st (width : Nat) (offset : Byte) (v : Word) (s : State) :
    (hostWrite width offset v s).st = s.st := by
  rcases hostWrite_cases width offset v s with
    ⟨-, hw⟩ | ⟨-, -, hw⟩ | ⟨r, -, -, -, hw⟩ | ⟨r, -, -, -, -, hw⟩ | ⟨r, -, -, -, -, hw⟩ <;> simp [hw]

@[simp] theorem hostWait_st (s : State) : (hostWait s).st = s.st := by
  unfold hostWait
  split <;> exact hostRead_st _ _ s

/-- `u` agrees with `t` but for the unspecified fields of St, which are `st`'s in `u` where `t` still has those of `s`
(10_state.md R45). -/
def agreesButUnspecified (st : DigestState) (s t u : State) : Prop :=
  u = t ∨ (t.st = s.st ∧ u = setSt st t)

/-- Every next state of the first outcome has one of the second that agrees with it. -/
def outcomesAgree (st : DigestState) (s : State) (o o' : Host.Outcome State Fault Refusal) : Prop :=
  ∀ t, o = .next t → ∃ u, o' = .next u ∧ agreesButUnspecified st s t u

theorem outcomesAgree_next {st : DigestState} {s t u : State} (h : agreesButUnspecified st s t u) :
    outcomesAgree st s (.next t) (.next u) := by
  rintro t' ht
  cases ht
  exact ⟨u, rfl, h⟩

/-- A state whose St is still that of `s`, beside the same state with `st`. -/
theorem agrees_setSt {st : DigestState} {s t : State} (h : t.st = s.st) : agreesButUnspecified st s t (setSt st t) :=
  .inr ⟨h, rfl⟩

section uninit

variable {st : DigestState} {s : State} (hst : st.phase = .uninit) (hs : s.st.phase = .uninit)
include hst hs

theorem commandCheck_setSt (i : Instr) : commandCheck i (setSt st s) = commandCheck i s := by
  have hphase : phaseCheck (setSt st s) = phaseCheck s := by
    simp only [phaseCheck, setSt_st, hst, hs]
  have hupdate : updateCheck (setSt st s) = updateCheck s := by
    unfold updateCheck
    rw [hphase]
    rfl
  cases i with
  | update => exact hupdate
  | pad fill => exact hphase
  | finalize => exact hphase
  | _ => rfl

omit hst in
theorem commandEffect_setSt {i : Instr} (hcheck : commandCheck i s = none) :
    agreesButUnspecified st s (commandEffect i s) (commandEffect i (setSt st s)) := by
  cases i with
  | init => exact .inl rfl
  | update => cases hs.symm.trans (phase_of_updateCheck hcheck)
  | pad fill => cases hs.symm.trans (phase_of_phaseCheck hcheck)
  | finalize => cases hs.symm.trans (phase_of_phaseCheck hcheck)
  | renderHex => exact .inr ⟨rfl, rfl⟩
  | digestRange =>
    have hread := rangeRead_setSt st s (offsetOperand s) (maxLenOperand s)
    exact .inl (congrArg (setConsumed (rangeBytes (offsetOperand s) (maxLenOperand s) s).length) hread)
  | hashGeneric => exact .inl (hashWholeFile_setSt st s _)
  | hashSnes => exact .inl (hashWholeFile_setSt st s _)
  | hashGenesis => exact .inl (hashWholeFile_setSt st s _)
  | hashNes => exact .inl (hashNes_setSt st s _)

theorem exec_setSt (i : Instr) : outcomesAgree st s (exec i s) (exec i (setSt st s)) := by
  rcases exec_cases i s with ⟨code, hcheck, -, hraise⟩ | ⟨hcheck, hdone⟩
  · have hraise' : exec i (setSt st s) = .next (setSt st (raiseCommand code s)) := by
      rw [exec_eq_runCommand, commandCheck_setSt hst hs, hcheck]
      rfl
    rw [hraise, hraise']
    exact outcomesAgree_next (agrees_setSt rfl)
  · have hdone' : exec i (setSt st s) = .next (complete (commandEffect i (setSt st s))) := by
      rw [exec_eq_runCommand, commandCheck_setSt hst hs, hcheck]
      rfl
    rw [hdone, hdone']
    refine outcomesAgree_next ?_
    rcases commandEffect_setSt hs hcheck with heffect | ⟨hsame, heffect⟩
    · rw [heffect]
      exact .inl rfl
    · rw [heffect]
      exact agrees_setSt hsame

theorem engineTurn_setSt : outcomesAgree st s (engineTurn s) (engineTurn (setSt st s)) := by
  unfold engineTurn runPending
  rw [setSt_busy, setSt_faulted, setSt_cmd]
  split
  · split
    · exact exec_setSt hst hs _
    · exact outcomesAgree_next (agrees_setSt rfl)
  · exact outcomesAgree_next (agrees_setSt rfl)

theorem readIsDraw_setSt (r : HostReg) : readIsDraw r (setSt st s) = readIsDraw r s := by
  simp only [readIsDraw, setSt_busy, setSt_st, hst, hs]

/-- A register that is no readback of St shows nothing of it but the phase (10_state.md R38, R40, R41). -/
theorem regValue_setSt {r : HostReg} (hr : readsDigestState r = false) : regValue r (setSt st s) = regValue r s := by
  cases r with
  | status => simp [regValue, statusWord, bufCntField, hst, hs]
  | stA | stB | stC | stD | cntLo | cntHi => cases hr
  | _ => rfl

/-- In UNINIT no read returns an unspecified field of St: a readback of St is a draw (10_state.md R40, R41). -/
theorem readValue_setSt (r : HostReg) : readValue r (setSt st s) = readValue r s := by
  unfold readValue
  rw [readIsDraw_setSt hst hs]
  split
  · rfl
  · next hdraw =>
    refine regValue_setSt hst hs ?_
    cases hr : readsDigestState r with
    | false => rfl
    | true => exact absurd (readIsDraw_of_uninit hs hr) hdraw

theorem readAfter_setSt (r : HostReg) : readAfter r (setSt st s) = setSt st (readAfter r s) := by
  unfold readAfter
  rw [readIsDraw_setSt hst hs]
  split <;> rfl

theorem hostRead_setSt (width : Nat) (offset : Byte) :
    hostRead width offset (setSt st s) = setSt st (hostRead width offset s) := by
  unfold hostRead
  rw [setSt_faulted]
  split
  · rw [readValue_setSt hst hs, readAfter_setSt hst hs]
    rfl
  · split <;> rfl

theorem hostWait_setSt : hostWait (setSt st s) = setSt st (hostWait s) := by
  unfold hostWait
  rw [readValue_setSt hst hs, hostRead_setSt hst hs]
  split <;> rfl

theorem hostMove_setSt (m : HostMove) : outcomesAgree st s (hostMove m s) (hostMove m (setSt st s)) := by
  cases m with
  | read width offset =>
    simp only [hostMove, hostRead_setSt hst hs]
    exact outcomesAgree_next (agrees_setSt (hostRead_st width offset s))
  | write width offset v =>
    simp only [hostMove, hostWrite_setSt]
    exact outcomesAgree_next (agrees_setSt (hostWrite_st width offset v s))
  | wait =>
    simp only [hostMove, hostWait_setSt hst hs]
    exact outcomesAgree_next (agrees_setSt (hostWait_st s))
  | attach src =>
    intro t h
    obtain ⟨hb, hw, rfl⟩ := hostAttach_eq_next_iff.1 h
    exact ⟨_, hostAttach_eq_next_iff.2 ⟨hb, hw, rfl⟩, agrees_setSt rfl⟩
  | reset =>
    have hreset : applyReset (setSt st s) = applyReset s := rfl
    simp only [hostMove, hreset]
    exact outcomesAgree_next (.inl rfl)

theorem hostTurn_setSt : outcomesAgree st s (hostTurn s) (hostTurn (setSt st s)) := by
  unfold hostTurn
  rw [setSt_hostMoves]
  split
  · exact outcomesAgree_next (agrees_setSt rfl)
  · next m rest _ => exact hostMove_setSt (s := { s with hostMoves := rest }) hst hs m

theorem agentTurn_setSt (a : Agent) : outcomesAgree st s (agentTurn a s) (agentTurn a (setSt st s)) := by
  cases a with
  | engine => exact engineTurn_setSt hst hs
  | host => exact hostTurn_setSt hst hs

theorem step_setSt : outcomesAgree st s (step s) (step (setSt st s)) := by
  have hagent : defaultAgent (setSt st s) = defaultAgent s := rfl
  unfold step nextTurn
  rw [setSt_schedule, hagent]
  split
  · exact agentTurn_setSt hst hs (defaultAgent s)
  · next a rest _ => exact agentTurn_setSt (s := { s with schedule := rest }) hst hs a

end uninit

end Sys2Proof.Machine

namespace Sys2Proof.Safety

open Sys2Proof.Machine

/-- Settles O60: the step of the other state is the same agent's turn, which reads none of the unspecified fields. -/
theorem unspecifiedStateIsNeverRead : Obligations.UnspecifiedStateIsNeverRead := by
  intro s t regs cnt buf hs hstep
  obtain ⟨u, hu, hagree⟩ := step_setSt (st := ⟨.uninit, regs, cnt, buf⟩) rfl hs t hstep
  exact ⟨u, hu, hagree⟩

end Sys2Proof.Safety


/-! SUPPORT. A decoded command's turn, the malformed and the read-only access, the accepted operand write, and the reads
of `wait` (20_memory.md R62, R63, R79; 30_encoding.md R101). -/

namespace Sys2Proof.Machine

/-- With an agent at the head of the schedule, the step is that agent's turn (log entry 2). -/
theorem step_of_scheduled {s : State} {a : Agent} {rest : List Agent} (hschedule : s.schedule = a :: rest) :
    step s = agentTurn a { s with schedule := rest } := by
  simp only [step, nextTurn, hschedule]

/-- The engine's turn executes a pending word that decodes (20_memory.md R79, 60_exceptions.md R202). -/
theorem engineTurn_of_decode {s : State} {i : Instr} (hb : s.busy = true) (hf : s.faulted = false)
    (hd : decode s.cmd = some i) : engineTurn s = exec i s := by
  simp only [engineTurn, runPending, hb, hf, hd, Bool.not_false, Bool.and_self, if_true]

/-- An access of another width or off a multiple of 4 reaches no register (20_memory.md R62). -/
theorem accessTarget_of_malformed {width : Nat} {o : Byte} (h : width ≠ 32 ∨ o.toNat % 4 ≠ 0) :
    accessTarget width o = none :=
  if_neg (not_and_or.2 h)

/-- A write to a writable register of an idle engine is performed (20_memory.md R63, 60_exceptions.md R203). -/
theorem hostWrite_of_writable {r : HostReg} {s : State} (hr : regWritable r = true) (hf : s.faulted = false)
    (hb : s.busy = false) (v : Word) :
    hostWrite 32 (regOffset r) v s = writeReg r v s := by
  simp only [hostWrite, hf, accessTarget_regOffset, hr, hb, Bool.false_eq_true, if_false, if_true]

section operandWrite

variable {r : HostReg} (hr : r = .arg0 ∨ r = .arg1 ∨ ∃ n, r = .data n) (v : Word) (s : State)

include hr

theorem regWritable_operand : regWritable r = true := (regWritable_iff r).2 (.inr hr)

/-- An operand register reads back no part of St (10_state.md R40, R41). -/
theorem readsDigestState_operand : readsDigestState r = false := by
  rcases hr with rfl | rfl | ⟨n, rfl⟩ <;> rfl

/-- Which reads are draws does not depend on the operands (10_state.md R40, R41; 70_reset_and_hazards.md R244). -/
theorem readIsDraw_writeReg_operand (q : HostReg) : readIsDraw q (writeReg r v s) = readIsDraw q s := by
  rcases hr with rfl | rfl | ⟨n, rfl⟩ <;> rfl

theorem regValue_writeReg_operand_same : regValue r (writeReg r v s) = v := by
  rcases hr with rfl | rfl | ⟨n, rfl⟩
  · rfl
  · rfl
  · exact Vector.getElem_set_self n.isLt

/-- An operand write changes what no other register holds (20_memory.md R63). -/
theorem regValue_writeReg_operand_of_ne {q : HostReg} (hq : q ≠ r) : regValue q (writeReg r v s) = regValue q s := by
  rcases hr with rfl | rfl | ⟨n, rfl⟩
  · cases q with
    | arg0 => exact absurd rfl hq
    | _ => rfl
  · cases q with
    | arg1 => exact absurd rfl hq
    | _ => rfl
  · cases q with
    | data m =>
      have hne : n.val ≠ m.val := fun h => hq (by rw [Fin.ext h])
      exact Vector.getElem_set_ne n.isLt m.isLt hne
    | _ => rfl

end operandWrite

/-- BUSY as a read of STATUS shows it, whether the other fields are draws or not (10_state.md R38). -/
theorem readValue_status_busy (s : State) : (readValue .status s).getLsbD 0 = s.busy := by
  cases hb : s.busy with
  | false => rw [Safety.readValue_status_of_idle hb, statusWord, packStatus_busy, hb]
  | true => rw [Safety.readValue_status_of_busy hb, statusWordBusy, packStatus_busy, hb]

/-- A read of a register changes nothing but what the host has recorded and the draws (20_memory.md R63). -/
theorem hostRead_reg_eq (r : HostReg) (s : State) :
    hostRead 32 (regOffset r) s =
      { s with recorded := ⟨32, regOffset r, readValue r s⟩ :: s.recorded, draws := (readAfter r s).draws } := by
  rw [hostRead_reg, BitVec.setWidth_eq, readAfter_eq]
  rfl

/-- A turn of `wait` is a read of STATUS, and the loop goes on exactly while BUSY is 1 (30_encoding.md R101). -/
theorem hostWait_eq (s : State) :
    hostWait s =
      { hostRead 32 (regOffset .status) s with
        hostMoves := if s.busy then .wait :: s.hostMoves else s.hostMoves } := by
  rw [hostWait, readValue_status_busy, hostRead_reg_eq]
  split <;> rfl

/-- The host's turn makes its first move (20_memory.md R81). -/
theorem hostTurn_of_cons {s : State} {m : HostMove} {rest : List HostMove} (h : s.hostMoves = m :: rest) :
    hostTurn s = hostMove m { s with hostMoves := rest } := by
  simp only [hostTurn, h]

end Sys2Proof.Machine

namespace Sys2Proof.Safety

open Sys2Proof.Machine

/-- Settles O49: the write performed is the register's own, and no other register's value or draw depends on it. -/
theorem acceptedWriteReadsBack : Obligations.AcceptedWriteReadsBack := by
  intro s v hf hb
  have hwrite {r : HostReg} (hr : r = .arg0 ∨ r = .arg1 ∨ ∃ n, r = .data n) :
      hostWrite 32 (regOffset r) v s = writeReg r v s :=
    hostWrite_of_writable (regWritable_operand hr) hf hb v
  refine ⟨hwrite (.inl rfl), hwrite (.inr (.inl rfl)), fun n => hwrite (.inr (.inr ⟨n, rfl⟩)), fun r hr => ?_⟩
  rw [hwrite hr]
  refine ⟨?_, fun q hq hdraw => ?_⟩
  · have hdraw : readIsDraw r s = false := by
      rw [readIsDraw_of_idle hb, readsDigestState_operand hr, Bool.false_and]
    rw [readValue_of_not_draw (by rw [readIsDraw_writeReg_operand hr, hdraw]), regValue_writeReg_operand_same hr]
  · rw [readValue_of_not_draw (by rw [readIsDraw_writeReg_operand hr, hdraw]), readValue_of_not_draw hdraw,
      regValue_writeReg_operand_of_ne hr v s hq]

/-- Settles O50: a read writes the record and the draws alone, and `wait` decides by the BUSY it reads. -/
theorem readsHaveNoSideEffect : Obligations.ReadsHaveNoSideEffect := by
  refine ⟨fun s r => ⟨(readAfter r s).draws, hostRead_reg_eq r s, fun hdraw => ?_⟩, fun s rest hmoves => ?_⟩
  · exact ⟨by rw [readAfter_of_not_draw hdraw], readValue_of_not_draw hdraw⟩
  · rw [hostTurn_of_cons hmoves, hostMove, hostWait_eq]
    rfl

/-- Settles O6: by default and when scheduled, the turn is the engine's, and it executes the word it decodes. -/
theorem stepRunsDecodedCommand : Obligations.StepRunsDecodedCommand := by
  intro s i hb hf hd _
  refine ⟨fun hschedule => ?_, fun rest hschedule => ?_⟩
  · rw [step_of_pending hschedule hb, engineTurn_of_decode hb hf hd]
  · rw [step_of_scheduled hschedule, agentTurn]
    exact engineTurn_of_decode hb hf hd

/-- Settles O46: a malformed access has no target. -/
theorem malformedAccessFaults : Obligations.MalformedAccessFaults := by
  intro s width o v hf hmalformed
  have ht := accessTarget_of_malformed hmalformed
  exact ⟨hostWrite_of_noTarget ht hf v, hostRead_of_noTarget ht hf⟩

/-- Settles O47: none of the 22 registers is writable. -/
theorem readOnlyWriteFaults : Obligations.ReadOnlyWriteFaults := by
  rintro s o v hf ⟨r, hr, rfl⟩
  have hreadOnly : regWritable r = false := by fin_cases hr <;> rfl
  exact hostWrite_of_readOnly hreadOnly hf v

end Sys2Proof.Safety


/-! SUPPORT. The decoder and the encoder are inverse to each other, the legal words are exactly the encoded commands, and
the turn of a pending word that is none of them (30_encoding.md R94 to R99). -/

namespace Sys2Proof

/-- Apart from PAD, whose row of the opcode map has a FILL field, a command is looked up by its opcode (R94). -/
theorem lookupOpcode_opcode {i : Instr} (h : i.opcode ≠ 0x03) : lookupOpcode i.opcode = some i := by
  cases i with
  | pad fill => exact absurd rfl h
  | _ => rfl

/-- A command with PAD's opcode is PAD, and its FILL field is the fill byte (R92, R94). -/
theorem pad_of_opcode {i : Instr} (h : i.opcode = 0x03) : .pad i.fillField = i := by
  cases i with
  | pad fill => rfl
  | _ => exact absurd h (by decide)

/-- The FILL field is 0 for every opcode but PAD's (R91). -/
theorem fillField_of_opcode {i : Instr} (h : i.opcode ≠ 0x03) : i.fillField = 0 := by
  cases i with
  | pad fill => exact absurd rfl h
  | _ => rfl

/-- What the decoder answers, by the three fields of the word (R91, R95, R96). -/
theorem decode_eq_some_iff_fields {w : Word} {i : Instr} :
    decode w = some i ↔ rsvdOf w = 0 ∧ fillOf w = i.fillField ∧ opcodeOf w = i.opcode := by
  unfold decode decodeWord
  constructor
  · intro h
    split_ifs at h with hrsvd hpad hfill
    · cases h
      exact ⟨not_not.1 hrsvd, rfl, hpad⟩
    · cases hop : lookupOpcode (opcodeOf w) with
      | none => simp [hop] at h
      | some j =>
        obtain rfl : j = i := by simpa [hop] using h
        obtain ⟨hopcode, hfield⟩ := lookupOpcode_some hop
        exact ⟨not_not.1 hrsvd, hfield ▸ not_not.1 hfill, hopcode.symm⟩
  · rintro ⟨hrsvd, hfill, hopcode⟩
    rw [if_neg (not_not.2 hrsvd), hfill, hopcode]
    by_cases hpad : i.opcode = 0x03
    · rw [if_pos hpad, pad_of_opcode hpad]
    · rw [if_neg hpad, if_neg (not_not.2 (fillField_of_opcode hpad)), lookupOpcode_opcode hpad]

/-- A word decodes to a command exactly when it is that command's one word (R98, R99). -/
theorem decode_eq_some_iff {w : Word} {i : Instr} : decode w = some i ↔ w = encode i :=
  decode_eq_some_iff_fields.trans (join_word i.fillField i.opcode w)

@[simp] theorem decode_encode (i : Instr) : decode (encode i) = some i := decode_eq_some_iff.2 rfl

/-- The encoder's word of every command is legal (R96). -/
theorem wordLegal_encode (i : Instr) : wordLegal (encode i) = true := by
  cases i with
  | init => exact Laws.LegalWord.init
  | update => exact Laws.LegalWord.update
  | pad fill => exact Laws.LegalWord.pad fill
  | finalize => exact Laws.LegalWord.finalize
  | renderHex => exact Laws.LegalWord.renderHex
  | digestRange => exact Laws.LegalWord.digestRange
  | hashGeneric => exact Laws.LegalWord.hashGeneric
  | hashSnes => exact Laws.LegalWord.hashSnes
  | hashGenesis => exact Laws.LegalWord.hashGenesis
  | hashNes => exact Laws.LegalWord.hashNes

/-- PAD's row of the opcode map fixes RSVD and OPCODE and leaves FILL free (R94). -/
theorem eq_encode_pad_of_selects {w : Word} (h : w &&& 0xFFFF00FF = 0x00000003) :
    w = encode (.pad (fillOf w)) := by
  have hrsvd : rsvdOf w = rsvdOf (w &&& 0xFFFF00FF) := by
    simp only [rsvdOf, BitVec.extractLsb'_and]
    exact BitVec.and_allOnes.symm
  have hopcode : opcodeOf w = opcodeOf (w &&& 0xFFFF00FF) := by
    simp only [opcodeOf, BitVec.extractLsb'_and]
    exact BitVec.and_allOnes.symm
  rw [h] at hrsvd hopcode
  exact (join_word _ _ _).1 ⟨hrsvd, rfl, hopcode⟩

/-- A row whose mask is the whole word selects its own word alone (R94). -/
theorem eq_of_selects_full {row : OpcodeRow} {w : Word} (hmask : row.mask = 0xFFFFFFFF) (h : row.selects w = true) :
    w = row.word := by
  have hword : w &&& row.mask = row.word := beq_iff_eq.1 h
  rw [← hword, hmask]
  exact BitVec.and_allOnes.symm

/-- A word that a row of the opcode map selects is the encoding of that row's command (R94, R96). -/
theorem eq_encode_of_wordLegal {w : Word} (h : wordLegal w = true) : ∃ i, w = encode i := by
  obtain ⟨row, hrow, hselects⟩ := List.any_eq_true.1 h
  fin_cases hrow
  · exact ⟨.init, eq_of_selects_full rfl hselects⟩
  · exact ⟨.update, eq_of_selects_full rfl hselects⟩
  · exact ⟨.pad (fillOf w), eq_encode_pad_of_selects (beq_iff_eq.1 hselects)⟩
  · exact ⟨.finalize, eq_of_selects_full rfl hselects⟩
  · exact ⟨.renderHex, eq_of_selects_full rfl hselects⟩
  · exact ⟨.digestRange, eq_of_selects_full rfl hselects⟩
  · exact ⟨.hashGeneric, eq_of_selects_full rfl hselects⟩
  · exact ⟨.hashSnes, eq_of_selects_full rfl hselects⟩
  · exact ⟨.hashGenesis, eq_of_selects_full rfl hselects⟩
  · exact ⟨.hashNes, eq_of_selects_full rfl hselects⟩

/-- The decoder answers exactly on the legal words (R96, R99). -/
theorem decode_isSome (w : Word) : (decode w).isSome = wordLegal w := by
  rw [Bool.eq_iff_iff, Option.isSome_iff_exists]
  constructor
  · rintro ⟨i, hi⟩
    rw [decode_eq_some_iff.1 hi]
    exact wordLegal_encode i
  · intro hlegal
    obtain ⟨i, rfl⟩ := eq_encode_of_wordLegal hlegal
    exact ⟨i, decode_encode i⟩

/-- No command has a reserved opcode (R94, R95). -/
theorem reservedOpcode_opcode (i : Instr) : Safety.reservedOpcode i.opcode.toNat = false := by
  cases i <;> rfl

/-- A reserved opcode never decodes, whatever the rest of the word (R95). -/
theorem decode_eq_none_of_reserved {w : Word} (h : Safety.reservedOpcode (opcodeOf w).toNat = true) :
    decode w = none := by
  rw [Option.eq_none_iff_forall_ne_some]
  intro i hi
  obtain ⟨-, -, hopcode⟩ := decode_eq_some_iff_fields.1 hi
  rw [hopcode, reservedOpcode_opcode] at h
  cases h

end Sys2Proof

namespace Sys2Proof.Machine

/-- A pending word that is no command is the fault ILLEGAL_CMD of the engine's turn (60_exceptions.md R202, R204). -/
theorem step_of_illegal {s : State} (hschedule : s.schedule = []) (hb : s.busy = true) (hf : s.faulted = false)
    (hd : decode s.cmd = none) : step s = .next (Safety.afterCommandFault .illegalCmd s) := by
  simp only [step_of_pending hschedule hb, engineTurn, runPending, hb, hf, hd, Bool.not_false, Bool.and_self, if_true]
  rfl

end Sys2Proof.Machine

namespace Sys2Proof.Safety

open Sys2Proof.Machine

/-- Settles O1: the encoded word has the command's three fields, and the decoder answers by them. -/
theorem decodeEncodeRoundTrip : Obligations.DecodeEncodeRoundTrip := fun i _ => decode_encode i

/-- Settles O2: the decoder reads every bit of the word, so the fields it answers by fix the word. -/
theorem encodeDecodeRoundTrip : Obligations.EncodeDecodeRoundTrip := fun _ _ h => (decode_eq_some_iff.1 h).symm

/-- Settles O3: the legal words are the encoded commands, and a word that is none faults in the engine's turn. -/
theorem illegalWordFaults : Obligations.IllegalWordFaults := by
  refine ⟨decode_isSome, fun s hschedule hb hf hillegal => step_of_illegal hschedule hb hf ?_⟩
  rw [← Option.isNone_iff_eq_none, ← Option.not_isSome, decode_isSome, hillegal]
  rfl

/-- Settles O4: a reserved opcode is no command's. -/
theorem reservedOpcodeFaults : Obligations.ReservedOpcodeFaults :=
  fun _ hschedule hb hf hreserved => step_of_illegal hschedule hb hf (decode_eq_none_of_reserved hreserved)

/-- Settles O5: the ten words are the encoded commands; the last has RSVD 1. -/
theorem writtenWordsDecode : Obligations.WrittenWordsDecode :=
  ⟨decode_encode .init, decode_encode .update, decode_encode (.pad 0xEE), decode_encode .finalize,
    decode_encode .renderHex, decode_encode .digestRange, decode_encode .hashGeneric, decode_encode .hashSnes,
    decode_encode .hashGenesis, decode_encode .hashNes, by decide⟩

end Sys2Proof.Safety


/-! SUPPORT. The commands of the digest primitive, each by its check and its effect (40_digest.md R128 to R132;
60_exceptions.md R202). -/

namespace Sys2Proof.Machine

/-- A command whose check fails takes the fault entry (60_exceptions.md R204). -/
theorem exec_of_commandCheck_some {i : Instr} {s : State} {code : FaultCode} (h : commandCheck i s = some code) :
    exec i s = .next (Safety.afterCommandFault code s) := by
  rw [exec_eq_runCommand, h]
  rfl

/-- A command whose check passes completes its effect (10_state.md R32). -/
theorem exec_of_commandCheck_none {i : Instr} {s : State} (h : commandCheck i s = none) :
    exec i s = .next (complete (commandEffect i s)) := by
  rw [exec_eq_runCommand, h]
  rfl

theorem phaseCheck_of_uninit {s : State} (hp : s.st.phase = .uninit) : phaseCheck s = some .notInit := by
  rw [phaseCheck, hp]

theorem phaseCheck_of_absorb {s : State} (hp : s.st.phase = .absorb) : phaseCheck s = none := by
  rw [phaseCheck, hp]

theorem phaseCheck_of_final {s : State} (hp : s.st.phase = .final) : phaseCheck s = some .finalized := by
  rw [phaseCheck, hp]

/-- UPDATE, PAD and FINALIZE check the phase before anything else (60_exceptions.md R202). -/
theorem commandCheck_of_phaseCheck {i : Instr} {s : State} {code : FaultCode} (hi : Safety.needsAbsorb i = true)
    (h : phaseCheck s = some code) : commandCheck i s = some code := by
  cases i with
  | update => rw [commandCheck, updateCheck, h]
  | pad fill => exact h
  | finalize => exact h
  | _ => cases hi

theorem exec_of_uninit {i : Instr} {s : State} (hi : Safety.needsAbsorb i = true) (hp : s.st.phase = .uninit) :
    exec i s = .next (Safety.afterCommandFault .notInit s) :=
  exec_of_commandCheck_some (commandCheck_of_phaseCheck hi (phaseCheck_of_uninit hp))

theorem exec_of_final {i : Instr} {s : State} (hi : Safety.needsAbsorb i = true) (hp : s.st.phase = .final) :
    exec i s = .next (Safety.afterCommandFault .finalized s) :=
  exec_of_commandCheck_some (commandCheck_of_phaseCheck hi (phaseCheck_of_final hp))

/-- In ABSORB, UPDATE checks only its length (60_exceptions.md R202). -/
theorem updateCheck_of_absorb {s : State} (hp : s.st.phase = .absorb) :
    updateCheck s = if 64 < s.arg0.toNat then some .badLen else none := by
  rw [updateCheck, phaseCheck_of_absorb hp]
  rfl

theorem exec_update_of_absorb {s : State} (hp : s.st.phase = .absorb) (hlen : s.arg0.toNat ≤ 64) :
    exec .update s = .next (complete (absorbInto ((window s).take s.arg0.toNat) s)) :=
  exec_of_commandCheck_none ((updateCheck_of_absorb hp).trans (if_neg (Nat.not_lt.2 hlen)))

/-- The window is its sixteen registers' 64 bytes (10_state.md R34). -/
@[simp] theorem window_length (s : State) : (window s).length = 64 := by
  rw [window, unpackWords_length, Vector.length_toList]

/-- The bytes of the four DIGEST registers, in register order (10_state.md R27). -/
theorem unpackWords_digest (v : Vector Word 4) :
    unpackWords v.toList = bytesLE32 v[0] ++ bytesLE32 v[1] ++ bytesLE32 v[2] ++ bytesLE32 v[3] := by
  have hlist : v.toList = [v[0], v[1], v[2], v[3]] :=
    List.ext_getElem (Vector.length_toList ..) fun i _ hi => by
      have hi' : i < 4 := hi
      interval_cases i <;> rfl
  rw [hlist]
  simp [unpackWords]

end Sys2Proof.Machine

namespace Sys2Proof.Safety

open Sys2Proof.Machine

/-- Settles O10: INIT has no check, and its effect replaces St. -/
theorem initResult : Obligations.InitResult :=
  ⟨fun _ => decode_eq_some_iff, fun _ => exec_of_commandCheck_none (i := .init) rfl⟩

/-- Settles O11: the phase is checked before the length, and a command that passes absorbs the window's first bytes. -/
theorem updateResult : Obligations.UpdateResult :=
  ⟨fun _ => decode_eq_some_iff, fun _ =>
    ⟨exec_of_uninit rfl, exec_of_final rfl,
      fun hp hlen => exec_of_commandCheck_some ((updateCheck_of_absorb hp).trans (if_pos hlen)),
      exec_update_of_absorb⟩⟩

/-- Settles O14: the phase is PAD's only check, so every 32-bit count is absorbed. -/
theorem padResult : Obligations.PadResult := by
  refine ⟨fun w v => ?_, fun s v => ⟨exec_of_uninit rfl, exec_of_final rfl, fun hp =>
    exec_of_commandCheck_none (phaseCheck_of_absorb hp)⟩⟩
  rw [decode_eq_some_iff, encode, BitVec.or_comm]
  rfl

/-- Settles O15: the phase is FINALIZE's only check. -/
theorem finalizeResult : Obligations.FinalizeResult :=
  ⟨fun _ => decode_eq_some_iff, fun _ => ⟨exec_of_uninit rfl, exec_of_final rfl, exec_finalize_of_absorb⟩⟩

/-- Settles O21: DIGEST_VALID is RENDER_HEX's only check, and the bytes it renders are the four registers'. -/
theorem renderHexResult : Obligations.RenderHexResult := by
  refine ⟨fun w => decode_eq_some_iff, fun s => ⟨fun hd => exec_of_commandCheck_some ?_, fun hd => ?_⟩⟩
  · rw [commandCheck, digestCheck, hd]
    rfl
  · have hcheck : commandCheck .renderHex s = none := by rw [commandCheck, digestCheck, hd]; rfl
    rw [exec_of_commandCheck_none hcheck, commandEffect, unpackWords_digest]
    rfl

end Sys2Proof.Safety


/-! SUPPORT. What the block buffer holds, and the blocks that absorbing completes (40_digest.md R120, R127; 10_state.md
R25). -/

namespace Sys2Proof.Machine

/-- The bytes absorbed since the last block boundary: the first BUF_CNT bytes of the buffer (10_state.md R25). -/
def buffered (st : DigestState) : List Byte := st.buf.toList.take (bufCnt st)

theorem bufCnt_lt (st : DigestState) : bufCnt st < 64 := Nat.mod_lt _ (by decide)

@[simp] theorem buffered_length (st : DigestState) : (buffered st).length = bufCnt st := by
  rw [buffered, List.length_take, Vector.length_toList, Nat.min_eq_left (bufCnt_lt st).le]

theorem buffered_append_length (st : DigestState) (s : List Byte) :
    (buffered st ++ s).length = bufCnt st + s.length := by
  rw [List.length_append, buffered_length]

/-- Absorbing past a block boundary: the buffered bytes and the new ones make a block, and the rest is absorbed from a
state with an empty buffer (40_digest.md R120). -/
theorem absorb_past_block (st : DigestState) (s : List Byte) (h : 64 ≤ (buffered st ++ s).length) :
    ∃ st', bufCnt st' = 0 ∧ st'.regs = compress st.regs ((buffered st ++ s).take 64) ∧
      absorb st s = absorb st' ((buffered st ++ s).drop 64) := by
  have hcnt := bufCnt_lt st
  rw [buffered_append_length] at h
  have hlen : bufCnt st + (s.take (64 - bufCnt st)).length = 64 := by rw [List.length_take]; omega
  have htake : (buffered st ++ s).take 64 = buffered st ++ s.take (64 - bufCnt st) := by
    rw [List.take_append, buffered_length, List.take_of_length_le (by rw [buffered_length]; omega)]
  have hdrop : (buffered st ++ s).drop 64 = s.drop (64 - bufCnt st) := by
    rw [List.drop_append, buffered_length, List.drop_eq_nil_of_le (by rw [buffered_length]; omega), List.nil_append]
  refine ⟨absorb st (s.take (64 - bufCnt st)), by rw [absorb_bufCnt, hlen], ?_, ?_⟩
  · rw [htake]
    exact absorb_block st _ hlen
  · rw [hdrop, ← absorb_append, List.take_append_drop]

/-- Absorbing exactly one block at a block boundary compresses it. -/
theorem absorb_regs_of_block {st : DigestState} {s : List Byte} (hst : bufCnt st = 0) (hs : s.length = 64) :
    (absorb st s).regs = compress st.regs s := by
  have h := absorb_block st s (by rw [hs]; exact congrArg (· + 64) hst)
  rwa [show st.cnt.toNat % 64 = 0 from hst] at h

/-- FINALIZE's padding is 9 bytes, and the zero bytes that bring it to a block boundary (40_digest.md R125). -/
theorem padding_length (cnt : DWord) : (padding cnt).length = 9 + (119 - cnt.toNat % 64) % 64 := by
  simp only [padding, List.length_append, List.length_singleton, fillBytes_length, bytesLE64_length]
  omega

/-- The pieces of a sequence, put together again, are the sequence. -/
theorem flatten_pieces {α : Type} {n : Nat} (hn : 0 < n) (s : List α) : (pieces n s).flatten = s := by
  induction hlen : s.length using Nat.strong_induction_on generalizing s with
  | _ len ih =>
    rcases eq_or_ne s [] with rfl | hne
    · rfl
    · have hpos : 0 < s.length := List.length_pos_of_ne_nil hne
      have hrest := ih _ (by rw [List.length_drop]; omega) (s.drop n) rfl
      rw [pieces_step n hn s hne, List.flatten_cons, hrest, List.take_append_drop]

end Sys2Proof.Machine

namespace Sys2Proof.Safety

open Sys2Proof.Machine

/-- Settles O12: BUF_CNT is at most 63 and LEN at most 64, so the bytes reach one block boundary or none. -/
theorem updateCompressesAtMostOneBlock : Obligations.UpdateCompressesAtMostOneBlock := by
  intro s t hp harg h n bytes
  cases h.symm.trans (exec_update_of_absorb hp harg)
  have hn : n < 64 := bufCnt_lt s.st
  have hlen : ((window s).take s.arg0.toNat).length = s.arg0.toNat := by
    rw [List.length_take, window_length, Nat.min_eq_left harg]
  have hbytes : bytes.length = n + ((window s).take s.arg0.toNat).length := buffered_append_length s.st _
  refine ⟨fun hshort => ?_, fun hlong => ?_⟩
  · rw [hbytes] at hshort ⊢
    exact absorb_short s.st _ hshort
  · obtain ⟨st', hboundary, hregs, hrest⟩ := absorb_past_block s.st _ hlong
    have hrestLen : (bytes.drop 64).length = bytes.length - 64 := List.length_drop
    have hcnt : st'.cnt.toNat % 64 = 0 := hboundary
    obtain ⟨hsame, hbuf⟩ := absorb_short st' (bytes.drop 64) (by omega)
    rw [hcnt, Nat.zero_add, hrestLen, List.take_zero, List.nil_append] at hbuf
    show (absorb s.st _).regs = _ ∧ (absorb s.st _).buf.toList.take _ = _
    rw [hrest]
    exact ⟨hsame.trans hregs, hbuf⟩

/-- Settles O18: the padding fills up the block it starts in when 9 bytes are left of it, else the next one too. -/
theorem finalizeBlockCount : Obligations.FinalizeBlockCount := by
  intro st n bytes r
  have hn : n < 64 := bufCnt_lt st
  have hpad : (padding st.cnt).length = 9 + (119 - n) % 64 := padding_length st.cnt
  have hbytes : bytes.length = n + (padding st.cnt).length := buffered_append_length st _
  refine ⟨fun hone => ⟨by omega, absorb_block st _ (by omega)⟩, fun htwo => ⟨by omega, ?_⟩⟩
  have hlong : 64 ≤ bytes.length := by omega
  obtain ⟨st', hboundary, hregs, hrest⟩ := absorb_past_block st (padding st.cnt) hlong
  have hblock : (bytes.drop 64).length = 64 := by rw [List.length_drop]; omega
  calc r = (absorb st' (bytes.drop 64)).regs := congrArg DigestState.regs hrest
    _ = compress st'.regs (bytes.drop 64) := absorb_regs_of_block hboundary hblock
    _ = compress (compress st.regs (bytes.take 64)) (bytes.drop 64) := congrArg (compress · (bytes.drop 64)) hregs

/-- Settles O19: absorbing the pieces one after the other is absorbing them joined, and joined they are the sequence. -/
theorem chunkedStreamingAgrees : Obligations.ChunkedStreamingAgrees := by
  intro n st s hn
  calc absorbChunked n st s = absorb st (pieces n s).flatten := List.foldl_flatten.symm
    _ = absorb st s := by rw [flatten_pieces hn]

/-- Settles O20: at BUF_CNT = 63 one byte completes the block, and the 64-bit counter wraps to 0. -/
theorem counterWraps : Obligations.CounterWraps := by
  intro s hp hcnt harg
  have hone : s.arg0.toNat = 1 := by rw [harg]; rfl
  have hlen : ((window s).take 1).length = 1 := by rw [List.length_take, window_length]; rfl
  have hmod : s.st.cnt.toNat % 64 = 63 := by rw [hcnt]; rfl
  have hexec := exec_update_of_absorb hp (by rw [hone]; decide)
  rw [hone] at hexec
  have hregs := absorb_block s.st ((window s).take 1) (by rw [hmod, hlen])
  rw [hmod] at hregs
  refine ⟨_, hexec, rfl, ?_, hregs⟩
  show (absorb s.st _).cnt = 0
  rw [absorb_cnt, hlen, hcnt]
  rfl

end Sys2Proof.Safety


/-! SUPPORT. The rendering's digits and their packing into HEX0 to HEX7 (40_digest.md R126; 10_state.md R28). -/

namespace Sys2Proof.Machine

@[simp] theorem hexBytes_nil : hexBytes [] = [] := rfl

@[simp] theorem hexBytes_cons (b : Byte) (d : List Byte) :
    hexBytes (b :: d) = hexDigit (b >>> 4) :: hexDigit (b &&& 0x0F) :: hexBytes d := rfl

@[simp] theorem hexBytes_length (d : List Byte) : (hexBytes d).length = 2 * d.length := by
  induction d with
  | nil => rfl
  | cons b d ih => simp only [hexBytes_cons, List.length_cons, ih]; omega

/-- The two characters of byte `k` stand at 2k and 2k + 1, the high nibble's first (R126). -/
theorem hexBytes_getElem? {d : List Byte} {k : Nat} {b : Byte} (h : d[k]? = some b) :
    (hexBytes d)[2 * k]? = some (hexDigit (b >>> 4)) ∧ (hexBytes d)[2 * k + 1]? = some (hexDigit (b &&& 0x0F)) := by
  induction d generalizing k with
  | nil => cases h
  | cons c d ih =>
    cases k with
    | zero =>
      cases h
      exact ⟨rfl, rfl⟩
    | succ k => exact ih h

/-- An ASCII code 0x30 to 0x39 or 0x61 to 0x66, the codes of R126's digits. -/
def isLowercaseHex (c : Byte) : Prop :=
  (0x30 ≤ c.toNat ∧ c.toNat ≤ 0x39) ∨ (0x61 ≤ c.toNat ∧ c.toNat ≤ 0x66)

theorem hexDigit_isLowercaseHex {v : Byte} (hv : v.toNat < 16) : isLowercaseHex (hexDigit v) := by
  unfold isLowercaseHex hexDigit
  by_cases h : v.toNat ≤ 9
  · rw [if_pos (show v ≤ 9 from h)]
    bv_omega
  · rw [if_neg (show ¬ v ≤ 9 from h)]
    bv_omega

theorem mem_hexBytes_isLowercaseHex {d : List Byte} {c : Byte} (h : c ∈ hexBytes d) : isLowercaseHex c := by
  obtain ⟨b, -, hc⟩ := List.mem_flatMap.1 h
  have hhigh : (b >>> 4).toNat < 16 := by rw [BitVec.toNat_ushiftRight, Nat.shiftRight_eq_div_pow]; omega
  have hlow : (b &&& 0x0F).toNat < 16 := by
    rw [BitVec.toNat_and]; exact Nat.lt_succ_of_le Nat.and_le_right
  simp only [List.mem_cons, List.not_mem_nil, or_false] at hc
  rcases hc with rfl | rfl
  · exact hexDigit_isLowercaseHex hhigh
  · exact hexDigit_isLowercaseHex hlow

/-- A byte placed at byte position `m` of a word is the word's byte `m`, and every other byte is 0 (00_scope.md R14). -/
theorem placedByte_extractLsb' (b : Byte) (m j : Fin 4) :
    (b.setWidth 32 <<< (8 * m.val)).extractLsb' (8 * j.val) 8 = if m = j then b else 0 := by
  ext k hk
  simp only [BitVec.getElem_extractLsb', BitVec.getLsbD_shiftLeft, BitVec.getLsbD_setWidth]
  rcases lt_trichotomy m j with h | rfl | h
  · rw [if_neg h.ne, BitVec.getLsbD_of_ge b _ (by omega)]
    simp
  · rw [if_pos rfl, Nat.add_sub_cancel_left, BitVec.getLsbD_eq_getElem hk]
    simp [show 8 * m.val + k < 32 by omega, show k < 32 by omega]
  · rw [if_neg h.ne']
    simp [show 8 * j.val + k < 8 * m.val by omega]

/-- Byte `j` of a packed word is byte `i + j` of the sequence (00_scope.md R14). -/
theorem le32_extractLsb' (s : List Byte) (i : Nat) (j : Fin 4) :
    (le32 s i).extractLsb' (8 * j.val) 8 = byteAt s (i + j.val) := by
  have hplaced : le32 s i =
      (byteAt s i).setWidth 32 <<< (8 * (0 : Fin 4).val) |||
        (byteAt s (i + 1)).setWidth 32 <<< (8 * (1 : Fin 4).val) |||
        (byteAt s (i + 2)).setWidth 32 <<< (8 * (2 : Fin 4).val) |||
        (byteAt s (i + 3)).setWidth 32 <<< (8 * (3 : Fin 4).val) := by
    simp [le32]
  rw [hplaced]
  simp only [BitVec.extractLsb'_or, placedByte_extractLsb']
  fin_cases j <;> simp

/-- HEXn packs the four characters from 4n on (10_state.md R28). -/
theorem packHex_getElem (h : List Byte) (n : Fin 8) : (packHex h)[n] = le32 h (4 * n.val) := by
  fin_cases n <;> rfl

end Sys2Proof.Machine

namespace Sys2Proof.Safety

open Sys2Proof.Machine

/-- Settles O22: two characters a byte by induction over the digest, each a nibble's digit, packed four a register. -/
theorem renderingIsLowercaseHex : Obligations.RenderingIsLowercaseHex := by
  intro d hd digit
  have hlen : (hexBytes d).length = 32 := by rw [hexBytes_length, hd]
  refine ⟨hlen, fun k b hb => hexBytes_getElem? hb, fun c hc => mem_hexBytes_isLowercaseHex hc, fun n j => ?_⟩
  have hbound : 4 * n.val + j.val < (hexBytes d).length := by omega
  rw [packHex_getElem, le32_extractLsb', byteAt, List.getD_eq_getElem _ _ hbound]
  exact List.getElem?_eq_getElem hbound

end Sys2Proof.Safety


/-! SUPPORT. The frames of the primitive's commands: a fault entry writes the fault state alone, an effect only its own
results (10_state.md R47; 60_exceptions.md R204). -/

namespace Sys2Proof.Safety

open Sys2Proof.Machine

/-- INIT, UPDATE and PAD write nothing but St (40_digest.md R128 to R130). -/
theorem commandEffect_eq_setSt {i : Instr} (hi : i = .init ∨ i = .update ∨ ∃ v, i = .pad v) (s : State) :
    ∃ st, commandEffect i s = setSt st s := by
  rcases hi with rfl | rfl | ⟨v, rfl⟩ <;> exact ⟨_, rfl⟩

/-- Settles O35: a fault entry leaves St and the results, and the three effects write St alone. -/
theorem absorbingCommandsFrame : Obligations.AbsorbingCommandsFrame := by
  intro i s t hi h
  rcases exec_cases i s with ⟨code, -, -, hraise⟩ | ⟨-, hdone⟩
  · cases h.symm.trans hraise
    exact ⟨⟨rfl, rfl, rfl, rfl, rfl, rfl⟩, rfl, .inr ⟨rfl, rfl⟩⟩
  · obtain ⟨st, hst⟩ := commandEffect_eq_setSt hi s
    rw [hst] at hdone
    cases h.symm.trans hdone
    exact ⟨⟨rfl, rfl, rfl, rfl, rfl, rfl⟩, rfl, .inl ⟨rfl, rfl⟩⟩

/-- Settles O36: a fault entry leaves St and the results, and FINALIZE's effect HEX, CONSUMED and the fault state. -/
theorem finalizeFrame : Obligations.FinalizeFrame := by
  intro s t h
  rcases exec_cases .finalize s with ⟨code, -, -, hraise⟩ | ⟨-, hdone⟩
  · cases h.symm.trans hraise
    exact ⟨rfl, rfl, rfl, .inr ⟨rfl, rfl, rfl, rfl, rfl, rfl, rfl, rfl⟩⟩
  · cases h.symm.trans hdone
    exact ⟨rfl, rfl, rfl, .inl ⟨rfl, rfl⟩⟩

/-- Settles O37: a fault entry leaves the results, and RENDER_HEX's effect writes HEX and HEX_VALID alone. -/
theorem renderHexFrame : Obligations.RenderHexFrame := by
  intro s t h
  rcases exec_cases .renderHex s with ⟨code, -, -, hraise⟩ | ⟨-, hdone⟩
  · cases h.symm.trans hraise
    exact ⟨rfl, rfl, rfl, rfl, rfl, rfl, .inr ⟨rfl, rfl, rfl, rfl, rfl, rfl, rfl⟩⟩
  · cases h.symm.trans hdone
    exact ⟨rfl, rfl, rfl, rfl, rfl, rfl, .inl ⟨rfl, rfl⟩⟩

end Sys2Proof.Safety


/-! SUPPORT. What a range read delivers: some of the source's bytes from its offset on, all that it can reach when the
source is reliable, and the same bytes from a reliable source that ends after them (41_range_and_recipes.md R161, R162,
R175). -/

namespace Sys2Proof.Machine

variable {s : State}

/-! A read leaves the source as it was (20_memory.md R64). -/

@[simp] theorem srcAfter_src (s : State) : (srcAfter s).src = s.src := by rw [srcAfter_eq]

@[simp] theorem srcAfter_srcReliable (s : State) : (srcAfter s).srcReliable = s.srcReliable := by rw [srcAfter_eq]

theorem srcCount_of_reliable (h : s.srcReliable = true) (offset n : Nat) :
    srcCount s offset n = min n (s.src.data.length - offset) :=
  if_pos h

/-- A source that cannot be opened delivers nothing (41_range_and_recipes.md R162). -/
theorem rangeBytes_of_absent (h : s.src.present = false) (o m : Nat) : rangeBytes o m s = [] := by
  simp [rangeBytes, h]

theorem rangeBytes_of_present (h : s.src.present = true) (o m : Nat) :
    rangeBytes o m s = srcBytes s o (effectiveLength s.src.size.toNat o m) :=
  if_pos h

/-- The bytes delivered are the source's own, from the offset on (20_memory.md R65). -/
theorem rangeBytes_eq_take (o m : Nat) (s : State) :
    rangeBytes o m s = (s.src.data.drop o).take (rangeBytes o m s).length := by
  cases h : s.src.present with
  | false => rw [rangeBytes_of_absent h]; rfl
  | true =>
    rw [rangeBytes_of_present h, srcBytes_length]
    rfl

/-- R65's bound on how many there are. -/
theorem rangeBytes_length_le_reach (o m : Nat) (s : State) :
    (rangeBytes o m s).length ≤ min (effectiveLength s.src.size.toNat o m) (s.src.data.length - o) := by
  refine le_min (rangeBytes_length_le o m s) ?_
  rw [rangeBytes_eq_take, List.length_take, List.length_drop]
  exact Nat.min_le_right _ _

theorem rangeBytes_of_reliable (hp : s.src.present = true) (hr : s.srcReliable = true) (o m : Nat) :
    rangeBytes o m s = (s.src.data.drop o).take (effectiveLength s.src.size.toNat o m) := by
  rw [rangeBytes_of_present hp, srcBytes_reliable hr]

theorem rangeBytes_length_of_reliable (hp : s.src.present = true) (hr : s.srcReliable = true) (o m : Nat) :
    (rangeBytes o m s).length = min (effectiveLength s.src.size.toNat o m) (s.src.data.length - o) := by
  rw [rangeBytes_of_reliable hp hr, List.length_take, List.length_drop]

theorem rangeRead_draws_of_absent (h : s.src.present = false) (o m : Nat) : (rangeRead o m s).draws = s.draws := by
  simp [rangeRead, h]

theorem rangeRead_draws_of_reliable (h : s.srcReliable = true) (o m : Nat) : (rangeRead o m s).draws = s.draws := by
  simp [rangeRead, srcAfter_reliable h]

/-- Where the read from `o` ended, were the end of the file: past the bytes it delivered (41_range_and_recipes.md
R175). -/
def readEnd (o m : Nat) (s : State) : Nat := min (o + (rangeBytes o m s).length) s.src.data.length

theorem le_effectiveLength_iff {k size o m : Nat} :
    k ≤ effectiveLength size o m ↔ k ≤ size - o ∧ (m = 0 ∨ k ≤ m) := by
  simp only [effectiveLength]
  split <;> omega

/-- "As if the file were that short": a reliable file cut where the read ended delivers the same bytes
(41_range_and_recipes.md R175). -/
theorem rangeBytes_of_cut {w : State} {o m : Nat} (hp : s.src.present = true)
    (hsrc : w.src = (Safety.withFileCutTo (readEnd o m s) s).src) (hr : w.srcReliable = true) :
    rangeBytes o m w = rangeBytes o m s := by
  have hle := rangeBytes_length_le_reach o m s
  have hsize := s.src.size.isLt
  have hcut : readEnd o m s - o = (rangeBytes o m s).length := by unfold readEnd; omega
  have hreach : (rangeBytes o m s).length ≤ effectiveLength (BitVec.ofNat 64 (readEnd o m s)).toNat o m := by
    rw [le_min_iff, le_effectiveLength_iff] at hle
    rw [le_effectiveLength_iff, BitVec.toNat_ofNat]
    unfold readEnd
    omega
  have hpresent : w.src.present = true := by rw [hsrc]; exact hp
  calc rangeBytes o m w
      = ((s.src.data.take (readEnd o m s)).drop o).take
          (effectiveLength (BitVec.ofNat 64 (readEnd o m s)).toNat o m) := by
        rw [rangeBytes_of_reliable hpresent hr, hsrc]
        rfl
    _ = rangeBytes o m s := by
      rw [List.drop_take, hcut, List.take_take, Nat.min_eq_right hreach, ← rangeBytes_eq_take]

end Sys2Proof.Machine


/-! SUPPORT. DIGEST_RANGE as one update of the state, and the power of two and the window of the NES recipe
(41_range_and_recipes.md R162, R170, R171). -/

namespace Sys2Proof.Machine

/-- DIGEST_RANGE has no check and writes St, CONSUMED and the draws (41_range_and_recipes.md R162; 30_encoding.md
R93). -/
theorem exec_digestRange (s : State) :
    exec .digestRange s =
      .next { s with
        st := absorb initState (rangeBytes s.arg0.toNat s.arg1.toNat s)
        consumed := BitVec.ofNat 64 (rangeBytes s.arg0.toNat s.arg1.toNat s).length
        draws := (rangeRead s.arg0.toNat s.arg1.toNat s).draws
        busy := false } := by
  have hoffset : offsetOperand s = s.arg0.toNat := BitVec.toNat_setWidth_of_le (by decide)
  have hlen : maxLenOperand s = s.arg1.toNat := BitVec.toNat_setWidth_of_le (by decide)
  rw [exec_of_commandCheck_none rfl, commandEffect, hoffset, hlen, rangeRead_eq]
  rfl

/-- R170: the exponent found is the first of 0 to 8 whose power reaches the count. -/
theorem nextPow2_isLeast {v : Byte} (hv : v ≠ 0) :
    ∃ j ≤ 8, nextPow2 v = 2 ^ j ∧ v.toNat ≤ 2 ^ j ∧ ∀ i : Nat, v.toNat ≤ 2 ^ i → 2 ^ j ≤ 2 ^ i := by
  obtain ⟨j, hj⟩ : ∃ j, (List.range 9).find? (fun j => decide (v.toNat ≤ 2 ^ j)) = some j :=
    Option.isSome_iff_exists.1 (List.find?_isSome.2 ⟨8, by decide, decide_eq_true v.isLt.le⟩)
  obtain ⟨hreach, hmem, hfirst⟩ := List.find?_range_eq_some.1 hj
  refine ⟨j, Nat.le_of_lt_succ (List.mem_range.1 hmem), ?_, of_decide_eq_true hreach, fun i hi => ?_⟩
  · rw [nextPow2, if_neg hv, List.find?_map]
    exact congrArg (fun o => (Option.map (2 ^ ·) o).getD 0) hj
  · refine Nat.pow_le_pow_right (by decide) (Nat.le_of_not_lt fun hij => ?_)
    simpa [hi] using hfirst i hij

theorem nextPow2_le (v : Byte) : nextPow2 v ≤ 256 := by
  rcases eq_or_ne v 0 with rfl | hv
  · decide
  · obtain ⟨j, hj, hpow, -⟩ := nextPow2_isLeast hv
    rw [hpow]
    exact Nat.pow_le_pow_right (by decide) hj

/-- Rounded or not, a bank count is at most 256 (41_range_and_recipes.md R171). -/
theorem nesBankCount_le (p : Params) (h : List Byte) : nesBankCount p h ≤ 256 := by
  unfold nesBankCount
  split
  · exact (nesBanks h).isLt.le
  · exact nextPow2_le _

theorem nesWindow_of_mem {p : Params} {h : List Byte} (hm : nesMapper h ∈ p.nesNoRound) :
    nesWindow p h = p.nesBankSize * (nesBanks h).toNat := by
  rw [nesWindow, nesBankCount, if_pos hm]

theorem nesWindow_of_not_mem {p : Params} {h : List Byte} (hm : nesMapper h ∉ p.nesNoRound) :
    nesWindow p h = p.nesBankSize * nextPow2 (nesBanks h) := by
  rw [nesWindow, nesBankCount, if_neg hm]

/-- The start offset by the trainer bit (41_range_and_recipes.md R168, R172). -/
theorem nesStart_eq (p : Params) (h : List Byte) :
    nesStart p h = p.nesHeaderLen + if byteAt h 6 &&& 0x04 = 0 then 0 else p.nesTrainerSkip := by
  simp [nesStart, nesTrainer]

/-- A header is accepted when its read is whole and it carries the magic (41_range_and_recipes.md R173). -/
theorem nesHeaderOk_iff (p : Params) (h : List Byte) :
    nesHeaderOk p h = true ↔ p.nesHeaderLen ≤ h.length ∧ h.take 4 = p.nesMagic := by
  simp [nesHeaderOk]

end Sys2Proof.Machine

namespace Sys2Proof.Safety

open Sys2Proof.Machine

/-- Settles O28: the least such exponent is found, and 0 is apart. -/
theorem bankRoundingIsLeastPowerOfTwo : Obligations.BankRoundingIsLeastPowerOfTwo :=
  ⟨rfl, fun _ hv => (nextPow2_isLeast hv).imp fun _ h => h.2⟩

/-- Settles O29: the mapper alone decides the rounding, and no count passes 256 banks. -/
theorem nesWindowSize : Obligations.NesWindowSize := by
  refine ⟨fun p h => ⟨nesWindow_of_mem, nesWindow_of_not_mem⟩, fun h => ⟨?_, fun hm => ?_, fun h53 h198 h228 => ?_⟩⟩
  · exact Nat.mul_le_mul_left 0x4000 (nesBankCount_le Config.params h)
  · exact nesWindow_of_mem (by simpa [Config.params] using hm)
  · exact nesWindow_of_not_mem (by simpa [Config.params] using ⟨h53, h198, h228⟩)

/-- Settles O23: the bytes absorbed are the range read's, whose count is R65's. -/
theorem digestRangeResult : Obligations.DigestRangeResult := by
  refine ⟨fun _ => decode_eq_some_iff, fun s => ?_⟩
  intro o m avail eff after
  have hexec : exec .digestRange s = .next (after (rangeBytes o m s).length (rangeRead o m s).draws) := by
    rw [exec_digestRange]
    simp only [after, ← rangeBytes_eq_take, o, m]
  refine ⟨fun habsent => ?_, fun hp hr => ?_, fun _ _ => ⟨_, _, rangeBytes_length_le_reach o m s, hexec⟩⟩
  · rw [hexec, rangeBytes_of_absent habsent, rangeRead_draws_of_absent habsent]
    rfl
  · rw [hexec, rangeBytes_length_of_reliable hp hr, rangeRead_draws_of_reliable hr]
    rfl

/-- Settles O38: the one update writes none of them. -/
theorem digestRangeFrame : Obligations.DigestRangeFrame := by
  intro s t h
  cases (exec_digestRange s).symm.trans h
  exact ⟨rfl, rfl, rfl, rfl, rfl, ⟨rfl, rfl⟩, fun hr => rangeRead_draws_of_reliable hr s.arg0.toNat s.arg1.toNat⟩

end Sys2Proof.Safety


/-! SUPPORT. Every recipe is what it reads and one way to end: the bytes it takes from the source, the padding for them
and the draws are a function of the source side alone, and the end writes the same fields whatever they are
(41_range_and_recipes.md R163 to R167, R173, R174). -/

namespace Sys2Proof.Machine

/-- What a recipe takes from its source side: the bytes it absorbs, the padding it appends to them, and the draw counter
after its reads. -/
structure RecipeRead where
  bytes : List Byte
  pad : List Byte
  draws : Nat

/-- No byte read. -/
def noRead (s : State) : RecipeRead := ⟨[], [], s.draws⟩

/-- A range read with the padding for its count. -/
def readRange (padFor : Nat → List Byte) (o m : Nat) (s : State) : RecipeRead :=
  ⟨rangeBytes o m s, padFor (rangeBytes o m s).length, (rangeRead o m s).draws⟩

/-- The window's read past a NES header, with the shortfall (41_range_and_recipes.md R173). -/
def readNesBody (p : Params) (h : List Byte) (s : State) : RecipeRead :=
  readRange (shortfall p.fillNes (nesWindow p h)) (nesStart p h) (nesWindow p h) s

/-- The NES recipe's reads: the header's, and the window's past an accepted header (41_range_and_recipes.md R173). -/
def readNes (p : Params) (s : State) : RecipeRead :=
  if s.src.present then
    if nesHeaderOk p (srcBytes s 0 p.nesHeaderLen) then readNesBody p (srcBytes s 0 p.nesHeaderLen) (srcAfter s)
    else noRead (srcAfter s)
  else noRead s

/-- What each recipe reads (41_range_and_recipes.md R165 to R167, R173). -/
def recipeRead (i : Instr) (s : State) : RecipeRead :=
  match i with
  | .hashGeneric => readRange (fun _ => []) 0 0 s
  | .hashSnes => readRange (shortfall s.params.fillSnes s.params.canonSnes) 0 0 s
  | .hashGenesis => readRange (shortfall s.params.fillGenesis s.params.canonGenesis) 0 0 s
  | .hashNes => readNes s.params s
  | _ => noRead s

/-- `s'` has the source side of `s`: all that a recipe may depend on (41_range_and_recipes.md R179). -/
structure SameSourceSide (s s' : State) : Prop where
  src : s'.src = s.src
  reliable : s'.srcReliable = s.srcReliable
  params : s'.params = s.params
  draws : s'.draws = s.draws

namespace SameSourceSide

variable {s s' : State} (h : SameSourceSide s s')
include h

theorem srcBytes_eq (o n : Nat) : srcBytes s' o n = srcBytes s o n := by
  simp only [srcBytes, srcCount, srcReach, h.src, h.reliable, h.draws]

theorem afterRead : SameSourceSide (srcAfter s) (srcAfter s') := by
  unfold srcAfter
  rw [h.reliable]
  split
  · exact h
  · exact { h with draws := congrArg (· + 1) h.draws }

theorem rangeBytes_eq (o m : Nat) : rangeBytes o m s' = rangeBytes o m s := by
  simp only [rangeBytes, h.src, h.srcBytes_eq]

theorem rangeRead_draws_eq (o m : Nat) : (rangeRead o m s').draws = (rangeRead o m s).draws := by
  simp only [rangeRead, setSt_draws, apply_ite State.draws, h.src, h.afterRead.draws, h.draws]

theorem readRange_eq (padFor : Nat → List Byte) (o m : Nat) : readRange padFor o m s' = readRange padFor o m s := by
  simp only [readRange, h.rangeBytes_eq, h.rangeRead_draws_eq]

theorem noRead_eq : noRead s' = noRead s := by rw [noRead, noRead, h.draws]

theorem readNes_eq (p : Params) : readNes p s' = readNes p s := by
  simp only [readNes, readNesBody, h.src, h.srcBytes_eq, h.afterRead.readRange_eq, h.afterRead.noRead_eq, h.noRead_eq]

theorem recipeRead_eq (i : Instr) : recipeRead i s' = recipeRead i s := by
  cases i with
  | hashGeneric => rw [recipeRead, recipeRead, h.readRange_eq]
  | hashSnes => rw [recipeRead, recipeRead, h.params, h.readRange_eq]
  | hashGenesis => rw [recipeRead, recipeRead, h.params, h.readRange_eq]
  | hashNes => rw [recipeRead, recipeRead, h.params, h.readNes_eq]
  | _ => exact h.noRead_eq

end SameSourceSide

theorem readRange_draws_of_reliable {s : State} (h : s.srcReliable = true) (padFor : Nat → List Byte) (o m : Nat) :
    (readRange padFor o m s).draws = s.draws :=
  rangeRead_draws_of_reliable h o m

theorem readNes_draws_of_reliable {s : State} (h : s.srcReliable = true) (p : Params) :
    (readNes p s).draws = s.draws := by
  unfold readNes
  rw [srcAfter_reliable h]
  split
  · split
    · exact readRange_draws_of_reliable h _ _ _
    · rfl
  · rfl

/-- A reliable source takes no draw (20_memory.md R65). -/
theorem recipeRead_draws_of_reliable {s : State} (h : s.srcReliable = true) (i : Instr) :
    (recipeRead i s).draws = s.draws := by
  cases i with
  | hashGeneric => exact readRange_draws_of_reliable h _ _ _
  | hashSnes => exact readRange_draws_of_reliable h _ _ _
  | hashGenesis => exact readRange_draws_of_reliable h _ _ _
  | hashNes => exact readNes_draws_of_reliable h _
  | _ => rfl

/-- From a source that cannot be opened a recipe reads no byte and takes no draw (41_range_and_recipes.md R162,
R173). -/
theorem recipeRead_of_absent {s : State} (h : s.src.present = false) (i : Instr) :
    (recipeRead i s).bytes = [] ∧ (recipeRead i s).draws = s.draws := by
  have hrange (padFor : Nat → List Byte) :
      (readRange padFor 0 0 s).bytes = [] ∧ (readRange padFor 0 0 s).draws = s.draws :=
    ⟨rangeBytes_of_absent h 0 0, rangeRead_draws_of_absent h 0 0⟩
  cases i with
  | hashGeneric => exact hrange _
  | hashSnes => exact hrange _
  | hashGenesis => exact hrange _
  | hashNes =>
    rw [recipeRead, readNes, h]
    exact ⟨rfl, rfl⟩
  | _ => exact ⟨rfl, rfl⟩

end Sys2Proof.Machine

namespace Sys2Proof.Safety

open Sys2Proof.Machine

/-- The end of every recipe: no result with no byte read, else the digest of the bytes and the padding
(41_range_and_recipes.md R163, R174). -/
def afterRecipe (r : RecipeRead) (s : State) : State :=
  { (if r.bytes.length = 0 then afterNoResult s else afterResult (md5 (r.bytes ++ r.pad)) r.bytes.length s) with
    draws := r.draws }

theorem complete_commitNone (s : State) : complete (commitNone (setConsumed 0 s)) = afterNoResult s := rfl

theorem complete_commitNone_srcAfter (s : State) :
    complete (commitNone (setConsumed 0 (srcAfter s))) = afterRecipe (noRead (srcAfter s)) s := by
  rw [srcAfter_eq]
  rfl

/-- A range read and its commit (41_range_and_recipes.md R163, R174). -/
theorem complete_commitRead_rangeRead (padFor : Nat → List Byte) (o m : Nat) (s : State) :
    complete (commitRead padFor (rangeBytes o m s).length (rangeRead o m s)) =
      afterRecipe (readRange padFor o m s) s := by
  have hdigest : finalDigest (absorb (rangeRead o m s).st (padFor (rangeBytes o m s).length)) =
      md5 (rangeBytes o m s ++ padFor (rangeBytes o m s).length) := by
    rw [rangeRead_st, ← absorb_append, finalDigest_absorb_initState]
  unfold afterRecipe readRange
  rcases commitRead_cases padFor (rangeBytes o m s).length (rangeRead o m s) with ⟨hnone, h⟩ | ⟨hsome, h⟩
  · rw [h, if_pos hnone, hnone, complete_commitNone, rangeRead_eq]
    rfl
  · rw [h, if_neg hsome, ← hdigest, rangeRead_eq]
    rfl

/-- A read before the recipe's last leaves nothing behind but its draw (20_memory.md R64). -/
theorem afterRecipe_srcAfter (r : RecipeRead) (s : State) : afterRecipe r (srcAfter s) = afterRecipe r s := by
  rw [srcAfter_eq]
  unfold afterRecipe
  split <;> rfl

theorem complete_hashWholeFile (padFor : Nat → List Byte) (s : State) :
    complete (hashWholeFile padFor s) = afterRecipe (readRange padFor 0 0 s) s :=
  complete_commitRead_rangeRead padFor 0 0 s

theorem complete_hashNes (p : Params) (s : State) : complete (hashNes p s) = afterRecipe (readNes p s) s := by
  unfold hashNes readNes
  split
  · split
    · rw [← afterRecipe_srcAfter]
      exact complete_commitRead_rangeRead _ _ _ _
    · exact complete_commitNone_srcAfter s
  · rfl

/-- No recipe has a check (60_exceptions.md R202). -/
theorem commandCheck_of_isRecipe {i : Instr} (hi : isRecipe i = true) (s : State) : commandCheck i s = none := by
  cases i with
  | hashGeneric => rfl
  | hashSnes => rfl
  | hashGenesis => rfl
  | hashNes => rfl
  | _ => cases hi

/-- Every recipe completes with what it has read (41_range_and_recipes.md R165 to R167, R173; 60_exceptions.md R202). -/
theorem exec_recipe {i : Instr} (hi : isRecipe i = true) (s : State) :
    exec i s = .next (afterRecipe (recipeRead i s) s) := by
  rw [exec_of_commandCheck_none (commandCheck_of_isRecipe hi s)]
  congr 1
  cases i with
  | hashGeneric => exact complete_hashWholeFile _ s
  | hashSnes => exact complete_hashWholeFile _ s
  | hashGenesis => exact complete_hashWholeFile _ s
  | hashNes => exact complete_hashNes s.params s
  | _ => cases hi

/-- Settles O39: neither end writes the fault state, and both leave St zero. -/
theorem recipesFrame : Obligations.RecipesFrame := by
  intro i s t hi h
  cases (exec_recipe hi s).symm.trans h
  refine ⟨?_, ?_, fun hr => recipeRead_draws_of_reliable hr i⟩
  · unfold afterRecipe
    split <;> exact ⟨rfl, rfl⟩
  · unfold afterRecipe
    split <;> rfl

/-- The end of a recipe writes the same fields to any state (41_range_and_recipes.md R163). -/
theorem afterRecipe_results (r : RecipeRead) (s s' : State) :
    (afterRecipe r s').st = (afterRecipe r s).st ∧ sameResults (afterRecipe r s) (afterRecipe r s') ∧
      (afterRecipe r s').busy = (afterRecipe r s).busy ∧ (afterRecipe r s').draws = (afterRecipe r s).draws := by
  unfold afterRecipe
  split <;> exact ⟨rfl, ⟨rfl, rfl, rfl, rfl, rfl, rfl⟩, rfl, rfl⟩

/-- Settles O31: the reads are equal, and so is what the recipe's end writes for them. -/
theorem recipesIgnoreEngineState : Obligations.RecipesIgnoreEngineState := by
  intro i s s' hi hsrc hr hp hd
  have hread : recipeRead i s' = recipeRead i s := SameSourceSide.recipeRead_eq ⟨hsrc, hr, hp, hd⟩ i
  refine ⟨_, _, exec_recipe hi s, exec_recipe hi s', ?_⟩
  rw [hread]
  exact afterRecipe_results _ s s'

theorem afterRecipe_idem (r : RecipeRead) (s : State) : afterRecipe r (afterRecipe r s) = afterRecipe r s := by
  unfold afterRecipe
  split <;> rfl

/-- Settles O33: the source side is as before, so the second run reads the same and writes the same. -/
theorem recipeIsIdempotent : Obligations.RecipeIsIdempotent := by
  intro i s t hi hreliable h
  obtain ⟨-, -, -, -, hsrc, hr, hp, -⟩ := exec_sameInputs h
  cases (exec_recipe hi s).symm.trans h
  have hd : (afterRecipe (recipeRead i s) s).draws = s.draws := recipeRead_draws_of_reliable hreliable i
  rw [exec_recipe hi, SameSourceSide.recipeRead_eq ⟨hsrc, hr, hp, hd⟩, afterRecipe_idem]

/-- A recipe that has made a range read, by the count of it (41_range_and_recipes.md R162 to R164). -/
theorem afterRecipe_readRange (padFor : Nat → List Byte) (o m : Nat) (s u : State) :
    afterRecipe (readRange padFor o m u) s =
      { (if (rangeBytes o m u).length = 0 then afterNoResult s
          else afterResult (md5 ((u.src.data.drop o).take (rangeBytes o m u).length ++
            padFor (rangeBytes o m u).length)) (rangeBytes o m u).length s) with
        draws := (rangeRead o m u).draws } := by
  rw [← rangeBytes_eq_take]
  rfl

theorem exec_recipe_of_absent {i : Instr} {s : State} (hi : isRecipe i = true) (h : s.src.present = false) :
    exec i s = .next (afterNoResult s) := by
  obtain ⟨hbytes, hdraws⟩ := recipeRead_of_absent h i
  rw [exec_recipe hi, afterRecipe, hbytes, hdraws]
  rfl

/-- The whole-file recipes on a source that can be opened (41_range_and_recipes.md R165 to R167). -/
theorem exec_wholeFile {i : Instr} {s : State} (padFor : Nat → List Byte) (hi : isRecipe i = true)
    (hread : recipeRead i s = readRange padFor 0 0 s) (hp : s.src.present = true) :
    ∃ k draws, k ≤ min s.src.size.toNat s.src.data.length ∧
      (s.srcReliable = true → k = min s.src.size.toNat s.src.data.length ∧ draws = s.draws) ∧
      exec i s =
        .next { (if k = 0 then afterNoResult s else afterResult (md5 (s.src.data.take k ++ padFor k)) k s) with
          draws := draws } :=
  ⟨(rangeBytes 0 0 s).length, (rangeRead 0 0 s).draws, rangeBytes_length_le_reach 0 0 s,
    fun hr => ⟨rangeBytes_length_of_reliable hp hr 0 0, rangeRead_draws_of_reliable hr 0 0⟩,
    by rw [exec_recipe hi, hread, afterRecipe_readRange, List.drop_zero]⟩

/-- Settles O24: the whole file, with no padding. -/
theorem hashGenericResult : Obligations.HashGenericResult :=
  ⟨fun _ => decode_eq_some_iff, fun _ => ⟨exec_recipe_of_absent rfl, fun hp => by
    simpa only [List.append_nil] using exec_wholeFile (fun _ => []) rfl rfl hp⟩⟩

/-- Settles O25: the whole file, with the shortfall of the record's SNES size. -/
theorem hashSnesResult : Obligations.HashSnesResult :=
  ⟨fun _ => decode_eq_some_iff, ⟨rfl, rfl⟩, fun s => ⟨exec_recipe_of_absent rfl,
    exec_wholeFile (shortfall s.params.fillSnes s.params.canonSnes) rfl rfl⟩⟩

/-- Settles O26: the whole file, with the shortfall of the record's Genesis size. -/
theorem hashGenesisResult : Obligations.HashGenesisResult :=
  ⟨fun _ => decode_eq_some_iff, ⟨rfl, rfl⟩, fun s => ⟨exec_recipe_of_absent rfl,
    exec_wholeFile (shortfall s.params.fillGenesis s.params.canonGenesis) rfl rfl⟩⟩

end Sys2Proof.Safety


/-! SUPPORT. The NES recipe's two reads: the header's bytes decide whether and where the window's are read
(41_range_and_recipes.md R168 to R173). -/

namespace Sys2Proof.Machine

variable {s : State} {p : Params}

theorem readNes_of_rejected (hp : s.src.present = true) {h : List Byte} (hheader : srcBytes s 0 p.nesHeaderLen = h)
    (hok : nesHeaderOk p h = false) : readNes p s = noRead (srcAfter s) := by
  rw [readNes, hp, hheader, hok]
  rfl

theorem readNes_of_accepted (hp : s.src.present = true) {h : List Byte} (hheader : srcBytes s 0 p.nesHeaderLen = h)
    (hok : nesHeaderOk p h = true) : readNes p s = readNesBody p h (srcAfter s) := by
  rw [readNes, hp, hheader, hok]
  rfl

end Sys2Proof.Machine

namespace Sys2Proof.Safety

open Sys2Proof.Machine

/-- Settles O27: the header read is the source's first bytes, and they alone tell the rejected files from the window's
read. -/
theorem hashNesResult : Obligations.HashNesResult := by
  refine ⟨fun _ => decode_eq_some_iff, ⟨rfl, rfl, rfl, rfl, rfl, rfl⟩,
    fun s => ⟨exec_recipe_of_absent rfl, fun hp => ?_⟩⟩
  refine ⟨srcCount s 0 s.params.nesHeaderLen, (readNes s.params s).draws, srcCount_le _ _ _,
    fun hr => ⟨srcCount_of_reliable hr _ _, readNes_draws_of_reliable hr _⟩, ?_⟩
  intro h mapper n c off eff
  have hheader : srcBytes s 0 s.params.nesHeaderLen = h := rfl
  have hlen : h.length = srcCount s 0 s.params.nesHeaderLen := srcBytes_length s 0 s.params.nesHeaderLen
  have hoff : nesStart s.params h = off := nesStart_eq s.params h
  have haccept := nesHeaderOk_iff s.params h
  rw [exec_recipe rfl, recipeRead]
  split
  case isTrue hbad =>
    have hrejected : nesHeaderOk s.params h = false := by
      rw [Bool.eq_false_iff, Ne, haccept, hlen]
      rintro ⟨hwhole, hmagic⟩
      exact hbad.elim (Nat.not_lt.2 hwhole) (· hmagic)
    rw [readNes_of_rejected hp hheader hrejected]
    rfl
  case isFalse hgood =>
    have haccepted : nesHeaderOk s.params h = true := by
      rw [haccept, hlen]
      exact ⟨Nat.le_of_not_lt fun hl => hgood (.inl hl), not_not.1 fun hm => hgood (.inr hm)⟩
    have hbound := rangeBytes_length_le_reach off c (srcAfter s)
    have hreliable := rangeBytes_length_of_reliable (s := srcAfter s) (o := off) (m := c)
    rw [srcAfter_src] at hbound hreliable
    refine ⟨_, hbound, fun hr => hreliable hp (by rwa [srcAfter_srcReliable]), ?_⟩
    rw [readNes_of_accepted hp hheader haccepted, readNesBody, afterRecipe_readRange, srcAfter_src, hoff]
    rfl

end Sys2Proof.Safety


/-! SUPPORT. A read that ends early beside the file that is that short, and padding by a recipe beside padding in one
absorb (41_range_and_recipes.md R175, R177). -/

namespace Sys2Proof.Machine

/-- The two reads give a recipe the same bytes and the same padding. -/
def RecipeRead.agree (r r' : RecipeRead) : Prop := r'.bytes = r.bytes ∧ r'.pad = r.pad

theorem readRange_agree {s w : State} {o m : Nat} (h : rangeBytes o m w = rangeBytes o m s)
    (padFor : Nat → List Byte) : (readRange padFor o m s).agree (readRange padFor o m w) := by
  refine ⟨h, ?_⟩
  rw [readRange, readRange, h]

theorem readEnd_le (o m : Nat) (s : State) : readEnd o m s ≤ s.src.data.length := Nat.min_le_right _ _

/-- The whole-file recipes: the file is cut where the one read ended (41_range_and_recipes.md R175). -/
theorem readRange_cut_agree {s : State} (hp : s.src.present = true) (padFor : Nat → List Byte) :
    (readRange padFor 0 0 s).agree (readRange padFor 0 0 (Safety.withFileCutTo (readEnd 0 0 s) s)) :=
  readRange_agree (rangeBytes_of_cut hp rfl rfl) padFor

/-- The header read from a file cut after `n` bytes. -/
theorem srcBytes_withFileCutTo (n k : Nat) (s : State) :
    srcBytes (Safety.withFileCutTo n s) 0 k = s.src.data.take (min k n) := by
  rw [srcBytes_reliable rfl, List.drop_zero, ← List.take_take]
  rfl

/-- A rejected header: the file is cut where the header's read ended, and the same header is read again
(41_range_and_recipes.md R175). -/
theorem readNes_cut_agree_of_rejected {s : State} {p : Params} (hp : s.src.present = true)
    (hok : nesHeaderOk p (srcBytes s 0 p.nesHeaderLen) = false) :
    (readNes p s).agree (readNes p (Safety.withFileCutTo (srcCount s 0 p.nesHeaderLen) s)) := by
  have hcount : srcCount s 0 p.nesHeaderLen ≤ p.nesHeaderLen := (srcCount_le s 0 _).trans (Nat.min_le_left _ _)
  have hcut : srcBytes (Safety.withFileCutTo (srcCount s 0 p.nesHeaderLen) s) 0 p.nesHeaderLen =
      srcBytes s 0 p.nesHeaderLen := by
    rw [srcBytes_withFileCutTo, Nat.min_eq_right hcount]
    rfl
  rw [readNes_of_rejected hp rfl hok,
    readNes_of_rejected (s := Safety.withFileCutTo (srcCount s 0 p.nesHeaderLen) s) hp hcut hok]
  exact ⟨rfl, rfl⟩

/-- An accepted header: the file is cut where the window's read ended, past the header (41_range_and_recipes.md
R175). -/
theorem readNes_cut_agree_of_accepted {s : State} {p : Params} {h : List Byte} (hp : s.src.present = true)
    (hheader : srcBytes s 0 p.nesHeaderLen = h) (hok : nesHeaderOk p h = true) :
    (readNes p s).agree
      (readNes p (Safety.withFileCutTo (readEnd (nesStart p h) (nesWindow p h) (srcAfter s)) s)) := by
  obtain ⟨hwhole, -⟩ := (nesHeaderOk_iff p h).1 hok
  have htake : s.src.data.take (srcCount s 0 p.nesHeaderLen) = h := hheader
  have hreach : srcCount s 0 p.nesHeaderLen ≤ min p.nesHeaderLen s.src.data.length := srcCount_le s 0 p.nesHeaderLen
  have hcount : srcCount s 0 p.nesHeaderLen = p.nesHeaderLen := by
    rw [← hheader, srcBytes_length] at hwhole
    omega
  have hend : p.nesHeaderLen ≤ readEnd (nesStart p h) (nesWindow p h) (srcAfter s) := by
    rw [readEnd, nesStart, srcAfter_src]
    omega
  generalize hn : readEnd (nesStart p h) (nesWindow p h) (srcAfter s) = n at hend
  have hcut : srcBytes (Safety.withFileCutTo n s) 0 p.nesHeaderLen = h := by
    rw [srcBytes_withFileCutTo, Nat.min_eq_left hend, ← hcount, htake]
  rw [readNes_of_accepted hp hheader hok, readNes_of_accepted (s := Safety.withFileCutTo n s) hp hcut hok]
  refine readRange_agree (rangeBytes_of_cut ?_ ?_ ?_) _
  · rw [srcAfter_src, hp]
  · simp only [srcAfter_src, Safety.withFileCutTo, hn]
  · rw [srcAfter_srcReliable]
    rfl

theorem readNes_cut_agree {s : State} (hp : s.src.present = true) (p : Params) :
    ∃ n ≤ s.src.data.length, (readNes p s).agree (readNes p (Safety.withFileCutTo n s)) := by
  cases hok : nesHeaderOk p (srcBytes s 0 p.nesHeaderLen) with
  | false => exact ⟨_, (srcCount_le s 0 _).trans (Nat.min_le_right _ _), readNes_cut_agree_of_rejected hp hok⟩
  | true =>
    refine ⟨_, ?_, readNes_cut_agree_of_accepted hp rfl hok⟩
    rw [← srcAfter_src s]
    exact readEnd_le _ _ _

theorem recipeRead_cut_agree {s : State} (hp : s.src.present = true) (i : Instr) :
    ∃ n ≤ s.src.data.length, (recipeRead i s).agree (recipeRead i (Safety.withFileCutTo n s)) := by
  cases i with
  | hashGeneric => exact ⟨_, readEnd_le 0 0 s, readRange_cut_agree hp _⟩
  | hashSnes => exact ⟨_, readEnd_le 0 0 s, readRange_cut_agree hp _⟩
  | hashGenesis => exact ⟨_, readEnd_le 0 0 s, readRange_cut_agree hp _⟩
  | hashNes => exact readNes_cut_agree hp s.params
  | _ => exact ⟨0, Nat.zero_le _, rfl, rfl⟩

end Sys2Proof.Machine

namespace Sys2Proof.Safety

open Sys2Proof.Machine

/-- A recipe's end is the same for the same bytes and padding, whatever file they came from. -/
theorem afterRecipe_sameEngine {r r' : RecipeRead} (h : r.agree r') (n : Nat) (s : State) :
    sameEngine (afterRecipe r' (withFileCutTo n s)) (afterRecipe r s) := by
  obtain ⟨hbytes, hpad⟩ := h
  unfold sameEngine afterRecipe
  rw [hbytes, hpad]
  split <;> rfl

theorem exec_recipe_cut {i : Instr} {s : State} (hi : isRecipe i = true) (hp : s.src.present = true) :
    ∃ n, n ≤ s.src.data.length ∧
      ∃ t u, exec i s = .next t ∧ exec i (withFileCutTo n s) = .next u ∧ sameEngine u t := by
  obtain ⟨n, hn, hagree⟩ := recipeRead_cut_agree hp i
  exact ⟨n, hn, _, _, exec_recipe hi s, exec_recipe hi _, afterRecipe_sameEngine hagree n s⟩

theorem exec_digestRange_cut {s : State} (hp : s.src.present = true) :
    ∃ n, n ≤ s.src.data.length ∧ ∃ t u, exec .digestRange s = .next t ∧
      exec .digestRange (withFileCutTo n s) = .next u ∧ sameEngine u t := by
  refine ⟨_, readEnd_le s.arg0.toNat s.arg1.toNat s, _, _, exec_digestRange s, exec_digestRange _, ?_⟩
  have hbytes : rangeBytes s.arg0.toNat s.arg1.toNat (withFileCutTo (readEnd s.arg0.toNat s.arg1.toNat s) s) =
      rangeBytes s.arg0.toNat s.arg1.toNat s := rangeBytes_of_cut hp rfl rfl
  unfold sameEngine
  rw [← hbytes]
  rfl

/-- Settles O30: the file is cut where the last read that mattered ended. -/
theorem earlyEndActsAsShortFile : Obligations.EarlyEndActsAsShortFile := by
  intro i s hi hp _
  cases i with
  | digestRange => exact exec_digestRange_cut hp
  | hashGeneric => exact exec_recipe_cut rfl hp
  | hashSnes => exact exec_recipe_cut rfl hp
  | hashGenesis => exact exec_recipe_cut rfl hp
  | hashNes => exact exec_recipe_cut rfl hp
  | _ => cases hi

/-- A recipe's digest beside FINALIZE's: both are the MD5 of the bytes read and the shortfall after them
(41_range_and_recipes.md R177). -/
theorem recipe_digest_eq_finalize {i : Instr} {s t u v : State} {fill : Byte} {canon o m : Nat} {bytes : List Byte}
    (hi : isRecipe i = true) (hread : recipeRead i s = readRange (shortfall fill canon) o m s)
    (hbytes : rangeBytes o m s = bytes) (hne : bytes ≠ []) (hfinal : exec .finalize u = .next v)
    (hu : u.st = absorb initState (bytes ++ List.replicate (canon - bytes.length) fill))
    (ht : exec i s = .next t) : t.digest = v.digest := by
  cases (exec_recipe hi s).symm.trans ht
  cases (finalizeGivesMdFive u _ hu).symm.trans hfinal
  rw [hread, readRange, hbytes, afterRecipe, if_neg (mt List.length_eq_zero_iff.1 hne)]
  rfl

/-- A reliable source of its own size delivers the whole rest of the file, or of the window asked for
(41_range_and_recipes.md R161; 10_state.md R36). -/
theorem rangeBytes_of_wf {s : State} (hp : s.src.present = true) (hr : s.srcReliable = true)
    (hwf : s.src.wf true = true) (o m : Nat) :
    rangeBytes o m s = if m = 0 then s.src.data.drop o else (s.src.data.drop o).take m := by
  have hsize : s.src.size.toNat = s.src.data.length := (beq_iff_eq.1 hwf).symm
  rw [rangeBytes_of_reliable hp hr, hsize, effectiveLength, ← List.length_drop]
  split
  · exact List.take_length
  · exact List.take_eq_take_min.symm

/-- Settles O32: each recipe's one range read and its shortfall, on a source that delivers all of it. -/
theorem paddingEquivalence : Obligations.PaddingEquivalence := by
  intro s t u v hp hr hwf hfinal p d h c rest body
  have hbytes (o m : Nat) := rangeBytes_of_wf hp hr hwf o m
  refine ⟨fun hpos _ => ?_, fun hpos _ => ?_, fun hlen hmagic hbody => ?_⟩
  · exact recipe_digest_eq_finalize rfl rfl (hbytes 0 0) (List.ne_nil_of_length_pos hpos) hfinal
  · exact recipe_digest_eq_finalize rfl rfl (hbytes 0 0) (List.ne_nil_of_length_pos hpos) hfinal
  · have hheader : srcBytes s 0 p.nesHeaderLen = h := srcBytes_reliable hr 0 p.nesHeaderLen
    have haccepted : nesHeaderOk p h = true :=
      (nesHeaderOk_iff p h).2 ⟨by rw [List.length_take]; exact le_min le_rfl hlen, hmagic⟩
    refine recipe_digest_eq_finalize rfl ?_ (hbytes (nesStart p h) c) hbody hfinal
    rw [recipeRead, readNes_of_accepted hp hheader haccepted, srcAfter_reliable hr]
    rfl

end Sys2Proof.Safety


/-! SUPPORT. Faults: where a step stops, the order of a command's checks, what a fault records, and what a faulted
engine answers (60_exceptions.md R200 to R213). -/

namespace Sys2Proof.Machine

/-- An engine's turn never stops the model (60_exceptions.md R200). -/
theorem engineTurn_next (s : State) : ∃ t, engineTurn s = .next t := by
  rcases engineTurn_cases s with ⟨-, h⟩ | ⟨i, -, -, -, h⟩ | ⟨-, -, -, h⟩
  · exact ⟨_, h⟩
  · rw [h]
    exact Safety.exec_next i s
  · exact ⟨_, h⟩

/-- With no move listed the host does nothing (log entry 14). -/
theorem hostTurn_of_nil {s : State} (h : s.hostMoves = []) : hostTurn s = .next s := by
  simp only [hostTurn, h]

/-- The host's turn stops the model at most at `attach` (log entry 9). -/
theorem hostTurn_next_or_attach (s : State) :
    (∃ t, hostTurn s = .next t) ∨ ∃ src rest, s.hostMoves = .attach src :: rest := by
  cases hmoves : s.hostMoves with
  | nil => exact .inl ⟨s, hostTurn_of_nil hmoves⟩
  | cons m rest =>
    rw [hostTurn_of_cons hmoves]
    cases m with
    | attach src => exact .inr ⟨src, rest, rfl⟩
    | _ => exact .inl ⟨_, rfl⟩

/-- R202 as a table: each command's checks in their order, the first that applies. -/
theorem commandCheck_eq (i : Instr) (s : State) :
    commandCheck i s =
      if Safety.needsAbsorb i = true ∧ s.st.phase = .uninit then some .notInit
      else if Safety.needsAbsorb i = true ∧ s.st.phase = .final then some .finalized
      else if i = .update ∧ 64 < s.arg0.toNat then some .badLen
      else if i = .renderHex ∧ s.digestValid = false then some .noDigest
      else none := by
  cases i with
  | update =>
    cases hp : s.st.phase with
    | uninit => simp [commandCheck, updateCheck, phaseCheck_of_uninit hp, Safety.needsAbsorb]
    | absorb => by_cases hlen : 64 < s.arg0.toNat <;> simp [commandCheck, updateCheck_of_absorb hp, hlen]
    | final => simp [commandCheck, updateCheck, phaseCheck_of_final hp, Safety.needsAbsorb]
  | pad fill => cases hp : s.st.phase <;> simp [commandCheck, phaseCheck, Safety.needsAbsorb, hp]
  | finalize => cases hp : s.st.phase <;> simp [commandCheck, phaseCheck, Safety.needsAbsorb, hp]
  | renderHex => cases hd : s.digestValid <;> simp [commandCheck, digestCheck, Safety.needsAbsorb, hd]
  | _ => rfl

/-- A write to a writable register while BUSY = 1 is BUSY_WRITE (60_exceptions.md R203, R209). -/
theorem hostWrite_of_busy {r : HostReg} {s : State} (hr : regWritable r = true) (hf : s.faulted = false)
    (hb : s.busy = true) (v : Word) :
    hostWrite 32 (regOffset r) v s = raiseAccess .busyWrite (regOffset r) true s := by
  simp only [hostWrite, hf, accessTarget_regOffset, hr, hb, Bool.false_eq_true, if_false, if_true]

section faultRecord

variable {s t : State} (hf : s.faulted = false) (ht : t.faulted = true)
include hf ht

/-- A fault of the engine's turn records the low byte of CMD (60_exceptions.md R204). -/
theorem engineTurn_fault (h : engineTurn s = .next t) :
    t.fault = ⟨t.fault.code, s.cmd.extractLsb' 0 8, 0, false⟩ := by
  rcases engineTurn_cases s with ⟨-, hidle⟩ | ⟨i, -, -, -, hexec⟩ | ⟨-, -, -, hill⟩
  · cases h.symm.trans hidle
    cases hf.symm.trans ht
  · rcases exec_cases i s with ⟨code, -, -, hraise⟩ | ⟨-, hdone⟩
    · cases (hexec.trans hraise).symm.trans h
      rfl
    · cases (hexec.trans hdone).symm.trans h
      simp [hf] at ht
  · cases h.symm.trans hill
    rfl

/-- A faulting read records its offset (60_exceptions.md R203, R204). -/
theorem hostRead_fault {width : Nat} {offset : Byte} (h : hostRead width offset s = t) :
    t.fault = ⟨.busAccess, 0, offset, false⟩ := by
  subst h
  rcases hostRead_cases width offset s with ⟨r, -, hr⟩ | ⟨-, hf', -⟩ | ⟨-, -, hr⟩
  · simp [hr, hf] at ht
  · cases hf.symm.trans hf'
  · rw [hr]
    rfl

/-- A faulting write records its offset, with one of two codes (60_exceptions.md R203, R204). -/
theorem hostWrite_fault {width : Nat} {offset : Byte} {v : Word} (h : hostWrite width offset v s = t) :
    t.fault = ⟨.busAccess, 0, offset, true⟩ ∨ t.fault = ⟨.busyWrite, 0, offset, true⟩ := by
  subst h
  rcases hostWrite_cases width offset v s with
    ⟨hf', -⟩ | ⟨-, -, hw⟩ | ⟨r, -, -, -, hw⟩ | ⟨r, -, -, -, -, hw⟩ | ⟨r, -, -, -, -, hw⟩
  · cases hf.symm.trans hf'
  · exact .inl (by rw [hw, raiseAccess_fault])
  · exact .inl (by rw [hw, raiseAccess_fault])
  · exact .inr (by rw [hw, raiseAccess_fault])
  · simp [hw, hf] at ht

/-- Of the host's moves a read and a write alone fault, and record themselves (60_exceptions.md R204). -/
theorem hostTurn_fault (h : hostTurn s = .next t) :
    ∃ width offset rest,
      (s.hostMoves = .read width offset :: rest ∧ t.fault = ⟨.busAccess, 0, offset, false⟩) ∨
      ∃ v, s.hostMoves = .write width offset v :: rest ∧
        (t.fault = ⟨.busAccess, 0, offset, true⟩ ∨ t.fault = ⟨.busyWrite, 0, offset, true⟩) := by
  cases hmoves : s.hostMoves with
  | nil =>
    cases (hostTurn_of_nil hmoves).symm.trans h
    cases hf.symm.trans ht
  | cons m rest =>
    rw [hostTurn_of_cons hmoves] at h
    cases m with
    | read width offset =>
      exact ⟨width, offset, rest, .inl ⟨rfl,
        hostRead_fault (s := { s with hostMoves := rest }) hf ht (Host.Outcome.next.inj h)⟩⟩
    | write width offset v =>
      exact ⟨width, offset, rest, .inr ⟨v, rfl,
        hostWrite_fault (s := { s with hostMoves := rest }) hf ht (Host.Outcome.next.inj h)⟩⟩
    | wait =>
      cases h
      simp [hf] at ht
    | attach src =>
      obtain ⟨-, -, rfl⟩ := hostAttach_eq_next_iff.1 h
      cases hf.symm.trans ht
    | reset =>
      cases h
      cases ht

end faultRecord

/-- What a system's step can do: nothing, where there is no such engine, or one engine's own step (R213). -/
theorem stepEngine_cases {engines after : List State} {n : Nat} (h : stepEngine engines n = .next after) :
    (engines[n]? = none ∧ after = engines) ∨
      ∃ s t, engines[n]? = some s ∧ step s = .next t ∧ after = engines.set n t := by
  unfold stepEngine at h
  cases hn : engines[n]? with
  | none =>
    rw [hn] at h
    exact .inl ⟨rfl, (Host.Outcome.next.inj h).symm⟩
  | some s =>
    simp only [hn] at h
    cases hstep : step s with
    | next t =>
      rw [hstep] at h
      exact .inr ⟨s, t, rfl, hstep, (Host.Outcome.next.inj h).symm⟩
    | fault r => simp [hstep] at h
    | refused r => simp [hstep] at h

end Sys2Proof.Machine

namespace Sys2Proof.Safety

open Sys2Proof.Machine

/-- A fault entry changes FAULT, FAULTED and BUSY of the engine (60_exceptions.md R204). -/
theorem sameEngine_of_faultEntered {s t : State} (h : faultEntered s t) :
    sameEngine { s with fault := t.fault, faulted := true, busy := false } t := by
  obtain ⟨fault, -, ht⟩ := h
  unfold sameEngine
  rw [ht]
  rfl

/-- A turn of `wait` has no side effect on the engine (20_memory.md R63, 30_encoding.md R101). -/
theorem hostWait_sameEngine (s : State) : sameEngine s (hostWait s) := by
  rw [hostWait_eq, hostRead_reg_eq]
  rfl

section faulted

variable {s : State} (hf : s.faulted = true)
include hf

/-- While FAULTED = 1 a write is dropped (60_exceptions.md R203). -/
theorem hostWrite_of_faulted (width : Nat) (offset : Byte) (v : Word) : hostWrite width offset v s = s :=
  if_pos hf

/-- While FAULTED = 1 a read raises nothing (60_exceptions.md R203). -/
theorem hostRead_sameEngine_of_faulted (width : Nat) (offset : Byte) : sameEngine s (hostRead width offset s) := by
  rcases hostRead_cases width offset s with ⟨r, -, h⟩ | ⟨-, -, h⟩ | ⟨-, hf', -⟩
  · rw [h, readAfter_eq]
    rfl
  · rw [h]
    rfl
  · cases hf.symm.trans hf'

/-- While FAULTED = 1 the engine executes nothing (60_exceptions.md R205). -/
theorem engineTurn_of_faulted : engineTurn s = .next s := by
  simp [engineTurn, hf]

/-- The host changes a faulted engine by reset alone (60_exceptions.md R206). -/
theorem hostTurn_of_faulted {t : State} (h : hostTurn s = .next t) :
    sameEngine s t ∨ (hasResetValues t ∧ ∃ rest, s.hostMoves = .reset :: rest) := by
  cases hmoves : s.hostMoves with
  | nil =>
    cases (hostTurn_of_nil hmoves).symm.trans h
    exact .inl rfl
  | cons m rest =>
    rw [hostTurn_of_cons hmoves] at h
    cases m with
    | read width offset =>
      cases h
      exact .inl (hostRead_sameEngine_of_faulted (s := { s with hostMoves := rest }) hf width offset)
    | write width offset v =>
      cases h
      rw [hostWrite_of_faulted (s := { s with hostMoves := rest }) hf]
      exact .inl rfl
    | wait =>
      cases h
      exact .inl (hostWait_sameEngine { s with hostMoves := rest })
    | attach src =>
      obtain ⟨-, -, rfl⟩ := hostAttach_eq_next_iff.1 h
      exact .inl rfl
    | reset =>
      cases h
      exact .inr ⟨⟨rfl, rfl, rfl, rfl, rfl, rfl, rfl, rfl, rfl, rfl, rfl, rfl, rfl, rfl⟩, rest, rfl⟩

end faulted

/-- Settles O9: of the turns only the host's can stop, and of the host's moves only `attach`. -/
theorem onlyAttachStops : Obligations.OnlyAttachStops := by
  refine ⟨exec_next, fun s => ?_⟩
  obtain ⟨agent, turns, hturn, -⟩ := step_cases s
  rw [hturn]
  cases agent with
  | engine => exact .inl (engineTurn_next _)
  | host => exact hostTurn_next_or_attach { s with schedule := turns }

/-- Settles O41: the table of R202 gives the pending command's check, which is all that decides how it ends. -/
theorem commandCheckOrder : Obligations.CommandCheckOrder := by
  intro s hschedule hb hf
  cases hd : decode s.cmd with
  | none => exact step_of_illegal hschedule hb hf hd
  | some i =>
    have hstep : step s = exec i s := (step_of_pending hschedule hb).trans (engineTurn_of_decode hb hf hd)
    have hcheck := commandCheck_eq i s
    simp only [hstep]
    split_ifs at hcheck ⊢
    · exact exec_of_commandCheck_some hcheck
    · exact exec_of_commandCheck_some hcheck
    · exact exec_of_commandCheck_some hcheck
    · exact exec_of_commandCheck_some hcheck
    · have hdone := exec_of_commandCheck_none hcheck
      exact ⟨_, hdone, hdone, by rw [complete_faulted, commandEffect_faulted, hf]⟩

/-- Settles O42: every fault is a fault entry, and whose turn it was says what it records. -/
theorem faultsArePrecise : Obligations.FaultsArePrecise := by
  intro s t hf hstep ht
  have hentered := step_faultEntered hf ht hstep
  have hcode : t.fault.code ≠ .none := by
    obtain ⟨fault, hcode, h⟩ := hentered
    rw [h]
    exact hcode
  refine ⟨sameEngine_of_faultEntered hentered, hcode, ?_⟩
  obtain ⟨agent, turns, hturn, -⟩ := step_cases s
  rw [hturn] at hstep
  cases agent with
  | engine => exact .inl (engineTurn_fault (s := { s with schedule := turns }) hf ht hstep)
  | host => exact .inr (hostTurn_fault (s := { s with schedule := turns }) hf ht hstep)

/-- Settles O43: a faulted engine's own turn does nothing, and of the host's moves only reset changes it. -/
theorem onlyResetLeavesFault : Obligations.OnlyResetLeavesFault := by
  intro s t hf hstep
  obtain ⟨agent, turns, hturn, -⟩ := step_cases s
  rw [hturn] at hstep
  cases agent with
  | engine =>
    cases (engineTurn_of_faulted (s := { s with schedule := turns }) hf).symm.trans hstep
    exact .inl rfl
  | host => exact hostTurn_of_faulted (s := { s with schedule := turns }) hf hstep

/-- Settles O51: FAULTED is a write's first check, and a read's last. -/
theorem faultedAccesses : Obligations.FaultedAccesses := by
  intro s width o v hf
  refine ⟨hostWrite_of_faulted hf width o v, hostRead_sameEngine_of_faulted hf width o, ?_⟩
  rintro r rfl rfl
  exact ⟨s.recorded, by rw [hostRead_reg_eq]⟩

/-- Settles O8: the scheduled agent comes first, the engine on the pending command or the host on its write. -/
theorem bothOrdersAdmitted : Obligations.BothOrdersAdmitted := by
  intro s i r v moves rest hb hf hd hr hmoves
  have hengine := step_of_scheduled (s := { s with schedule := .engine :: rest }) rfl
  have hhost := step_of_scheduled (s := { s with schedule := .host :: rest }) rfl
  have hmove := hostTurn_of_cons (s := { s with schedule := rest }) hmoves
  have hwrite := hostWrite_of_busy (s := { s with schedule := rest, hostMoves := moves }) hr hf hb v
  exact ⟨hengine.trans (engineTurn_of_decode (s := { s with schedule := rest }) hb hf hd),
    hhost.trans (hmove.trans (congrArg Host.Outcome.next hwrite))⟩

/-- Settles O57: the step replaces one entry of the list by that engine's next state. -/
theorem enginesAreIndependent : Obligations.EnginesAreIndependent := by
  intro engines after n h
  rcases stepEngine_cases h with ⟨hn, rfl⟩ | ⟨s, t, hn, hstep, rfl⟩
  · exact ⟨rfl, fun _ _ => rfl, fun s _ hs _ => by cases hn.symm.trans hs⟩
  · refine ⟨List.length_set, fun m hm => List.getElem?_set_ne hm.symm, fun s' t' hs' ht' => ?_⟩
    obtain ⟨hlt, -⟩ := List.getElem?_eq_some_iff.1 hn
    rw [List.getElem?_set_self hlt] at ht'
    cases hn.symm.trans hs'
    cases ht'
    exact hstep

end Sys2Proof.Safety


/-! SUPPORT. What lies outside the engine: reset keeps the byte source, the launch parameter and the configuration
record, and so does every turn but the host's `attach` (10_state.md R36, R45, R46; 20_memory.md R64, R81). -/

namespace Sys2Proof.Machine

/-- The byte source, the launch parameter and the configuration record are as before (10_state.md R36, R46). -/
def sameEnvironment (s t : State) : Prop :=
  t.src = s.src ∧ t.srcReliable = s.srcReliable ∧ t.params = s.params

theorem sameEnvironment.refl (s : State) : sameEnvironment s s := ⟨rfl, rfl, rfl⟩

/-- A fault entry writes FAULT, FAULTED and BUSY alone (60_exceptions.md R204). -/
theorem takeFault_sameEnvironment (code : FaultCode) (opc offset : Byte) (write : Bool) (s : State) :
    sameEnvironment s (takeFault code opc offset write s) :=
  ⟨rfl, rfl, rfl⟩

theorem applyReset_sameEnvironment (s : State) : sameEnvironment s (applyReset s) := ⟨rfl, rfl, rfl⟩

theorem writeReg_sameEnvironment (r : HostReg) (v : Word) (s : State) : sameEnvironment s (writeReg r v s) := by
  cases r <;> exact ⟨rfl, rfl, rfl⟩

theorem hostWrite_sameEnvironment (width : Nat) (offset : Byte) (v : Word) (s : State) :
    sameEnvironment s (hostWrite width offset v s) := by
  rcases hostWrite_cases width offset v s with
    ⟨-, hw⟩ | ⟨-, -, hw⟩ | ⟨r, -, -, -, hw⟩ | ⟨r, -, -, -, -, hw⟩ | ⟨r, -, -, -, -, hw⟩ <;> rw [hw]
  · exact .refl s
  · exact takeFault_sameEnvironment _ _ _ _ s
  · exact takeFault_sameEnvironment _ _ _ _ s
  · exact takeFault_sameEnvironment _ _ _ _ s
  · exact writeReg_sameEnvironment r v s

theorem hostRead_sameEnvironment (width : Nat) (offset : Byte) (s : State) :
    sameEnvironment s (hostRead width offset s) := by
  rcases hostRead_cases width offset s with ⟨r, -, hr⟩ | ⟨-, -, hr⟩ | ⟨-, -, hr⟩ <;> rw [hr]
  · rw [readAfter_eq]
    exact ⟨rfl, rfl, rfl⟩
  · exact ⟨rfl, rfl, rfl⟩
  · exact takeFault_sameEnvironment .busAccess 0 offset false s

theorem hostWait_sameEnvironment (s : State) : sameEnvironment s (hostWait s) := by
  rw [hostWait_eq]
  exact hostRead_sameEnvironment 32 (regOffset .status) s

section turns

variable {s t : State}

/-- A command only reads its source (20_memory.md R64). -/
theorem engineTurn_sameEnvironment (h : engineTurn s = .next t) : sameEnvironment s t := by
  rcases engineTurn_cases s with ⟨-, hidle⟩ | ⟨i, -, -, -, hexec⟩ | ⟨-, -, -, hill⟩
  · cases h.symm.trans hidle
    exact .refl s
  · obtain ⟨-, -, -, -, hsrc, hreliable, hparams, -⟩ := Safety.exec_sameInputs (hexec.symm.trans h)
    exact ⟨hsrc, hreliable, hparams⟩
  · cases h.symm.trans hill
    exact takeFault_sameEnvironment _ _ _ _ s

/-- The host changes what lies outside the engine by attaching a source alone, while BUSY = 0
(70_reset_and_hazards.md R248). -/
theorem hostTurn_sameEnvironment_or_attach (h : hostTurn s = .next t) :
    sameEnvironment s t ∨
      ∃ src rest, s.hostMoves = .attach src :: rest ∧ s.busy = false ∧
        t = { s with hostMoves := rest, src := src } := by
  cases hmoves : s.hostMoves with
  | nil =>
    cases (hostTurn_of_nil hmoves).symm.trans h
    exact .inl (.refl s)
  | cons m rest =>
    rw [hostTurn_of_cons hmoves] at h
    cases m with
    | read width offset =>
      cases h
      exact .inl (hostRead_sameEnvironment width offset { s with hostMoves := rest })
    | write width offset v =>
      cases h
      exact .inl (hostWrite_sameEnvironment width offset v { s with hostMoves := rest })
    | wait =>
      cases h
      exact .inl (hostWait_sameEnvironment { s with hostMoves := rest })
    | attach src =>
      obtain ⟨hb, -, ht⟩ := hostAttach_eq_next_iff.1 h
      exact .inr ⟨src, rest, rfl, hb, ht⟩
    | reset =>
      cases h
      exact .inl (applyReset_sameEnvironment { s with hostMoves := rest })

end turns

/-- While BUSY = 1 no source is attached (70_reset_and_hazards.md R248; 93_implementation_defined.md S10). -/
theorem hostAttach_of_busy {s : State} (hb : s.busy = true) (src : ByteSource) :
    hostAttach src s = .refused .sourceChangedWhileBusy :=
  if_pos hb

end Sys2Proof.Machine

namespace Sys2Proof.Safety

open Sys2Proof.Machine

/-- Reset from any state (10_state.md R45; 70_reset_and_hazards.md R240). -/
theorem applyReset_hasResetValues (s : State) : hasResetValues (applyReset s) :=
  ⟨rfl, rfl, rfl, rfl, rfl, rfl, rfl, rfl, rfl, rfl, rfl, rfl, rfl, rfl⟩

/-- Settles O56: of all turns only the host's `attach` writes the source, and it has a next state while BUSY = 0
alone. -/
theorem sourceChangesOnlyByAttach : Obligations.SourceChangesOnlyByAttach := by
  refine ⟨fun s src hb => hostAttach_of_busy hb src,
    fun s src hb hwf => hostAttach_eq_next_iff.2 ⟨hb, hwf, rfl⟩, fun s t hstep => ?_⟩
  obtain ⟨agent, turns, hturn, -⟩ := step_cases s
  rw [hturn] at hstep
  cases agent with
  | engine =>
    obtain ⟨hsrc, hreliable, hparams⟩ := engineTurn_sameEnvironment hstep
    exact ⟨hreliable, hparams, .inl hsrc⟩
  | host =>
    rcases hostTurn_sameEnvironment_or_attach hstep with ⟨hsrc, hreliable, hparams⟩ | ⟨src, rest, hmoves, hb, rfl⟩
    · exact ⟨hreliable, hparams, .inl hsrc⟩
    · exact ⟨rfl, rfl, .inr ⟨hb, rest, hmoves⟩⟩

/-- Settles O48: the four kinds of register named are the writable ones. -/
theorem busyWriteFaults : Obligations.BusyWriteFaults :=
  fun _ r v hf hb hr => hostWrite_of_busy ((regWritable_iff r).2 hr) hf hb v

/-- Settles O55: the scheduled host makes its move, and reset reads nothing of the engine's state. -/
theorem resetValues : Obligations.ResetValues := by
  intro s rest turns hmoves hschedule
  have hstep : step s = .next (applyReset { s with schedule := turns, hostMoves := rest }) :=
    (step_of_scheduled hschedule).trans (hostTurn_of_cons (s := { s with schedule := turns }) hmoves)
  exact ⟨_, hstep, applyReset_hasResetValues _, applyReset_sameEnvironment _⟩

end Sys2Proof.Safety
